-- ==== Sys2Proof/Word.lean ====
section
/-!
DEFINITION. The words of the coupler: bytes, epochs, slot and table indexes.
-/
namespace Sys2Proof

/-- One byte of a frame, a telegram or the Parameter Store. -/
abbrev Byte := BitVec 8

/-- A two-byte field that is carried and compared but not counted with (cycle count, vendor code). -/
abbrev Half := BitVec 16

/-- A slot's epoch, 0..255, 255 followed by 0 (R3). -/
abbrev Epoch := BitVec 8

/-- A slot by its index 0..15; the slot number of the manual is the index plus one (R1). -/
abbrev Slot := Fin 16

/-- An index of the Profile Table, 0..31 (R57). -/
abbrev ProfileIndex := Fin 32

/-- An index of the Identity Rule Table, 0..23 (R46). -/
abbrev RuleIndex := Fin 24

/-- The slot number of the manual, 1..16. -/
def slotNumber (k : Slot) : Nat := k.val + 1

/-- The sixteen slots in slot order. -/
def allSlots : List Slot := [0, 1, 2, 3, 4, 5, 6, 7, 8, 9, 10, 11, 12, 13, 14, 15]

end Sys2Proof
end

