-- ==== Sys2Proof/Machine/Wire.lean ====
section
/-!
DEFINITION. Bytes on the head link and the backplane: byte order, flags, CRC-16 and CRC-32.
-/
namespace Sys2Proof.Machine

/-- A number as one byte. -/
def byteOf (n : Nat) : Byte := BitVec.ofNat 8 n

/-- A number as a two-byte field, most significant byte first (chapter 11). -/
def be16 (n : Nat) : List Byte := [byteOf (n / 256), byteOf n]

/-- A 16-bit word as two bytes, most significant byte first. -/
def half16 (w : Half) : List Byte := [w.extractLsb' 8 8, w.extractLsb' 0 8]

/-- A 32-bit word as four bytes, most significant byte first. -/
def word32 (w : BitVec 32) : List Byte :=
  [w.extractLsb' 24 8, w.extractLsb' 16 8, w.extractLsb' 8 8, w.extractLsb' 0 8]

/-- The number that two bytes spell, most significant byte first. -/
def nat16 (hi lo : Byte) : Nat := hi.toNat * 256 + lo.toNat

/-- A flag is 1 for yes or set and 0 for no or clear (chapter 11). -/
def flagByte (b : Bool) : Byte := if b then 1 else 0

/-- A flag byte holding anything other than 0 or 1 is outside its values (R193). -/
def flagOf (b : Byte) : Option Bool :=
  if b = 0 then some false else if b = 1 then some true else none

/-- A set of slots as two bytes: bit k − 1 is 1 when slot k is in it (R198, R200). -/
def slotSetBytes (ks : List Slot) : List Byte :=
  be16 ((allSlots.filter (· ∈ ks)).map (fun k => 2 ^ k.val)).sum

/-- The CRC-16 register after one bit shift (polynomial 0x1021, R91). -/
def crc16Shift (crc : BitVec 16) : BitVec 16 :=
  if crc.msb then (crc <<< 1) ^^^ 0x1021#16 else crc <<< 1

/-- The CRC-16 register after one byte. The bits of a byte are taken most significant first, and nothing is inverted
at the end (DEDUCED, log 9). -/
def crc16Byte (crc : BitVec 16) (b : Byte) : BitVec 16 :=
  let c := crc ^^^ (b.zeroExtend 16 <<< 8)
  crc16Shift (crc16Shift (crc16Shift (crc16Shift (crc16Shift (crc16Shift (crc16Shift (crc16Shift c)))))))

/-- The CRC-16 of a telegram's header and data, starting from 0xFFFF (R91). -/
def crc16 (bytes : List Byte) : BitVec 16 := bytes.foldl crc16Byte 0xFFFF#16

/-- A telegram on the backplane: header and data, then the CRC-16, most significant byte first (R91). -/
def withCrc16 (bytes : List Byte) : List Byte := bytes ++ half16 (crc16 bytes)

/-- The CRC-32 register after one bit: 0x04C11DB7 in reflected form is 0xEDB88320 (R169). -/
def crc32Shift (crc : BitVec 32) : BitVec 32 :=
  if crc.getLsbD 0 then (crc >>> 1) ^^^ 0xEDB88320#32 else crc >>> 1

/-- The CRC-32 register after one byte. -/
def crc32Byte (crc : BitVec 32) (b : Byte) : BitVec 32 :=
  let c := crc ^^^ b.zeroExtend 32
  crc32Shift (crc32Shift (crc32Shift (crc32Shift (crc32Shift (crc32Shift (crc32Shift (crc32Shift c)))))))

/-- The CRC-32 of a head-link frame: an initial value of all ones and a final inversion (R169). -/
def crc32 (bytes : List Byte) : BitVec 32 := ~~~ (bytes.foldl crc32Byte 0xFFFFFFFF#32)

/-- A frame on the head link: its bytes, then the CRC-32, most significant byte first (R169). -/
def withCrc32 (bytes : List Byte) : List Byte := bytes ++ word32 (crc32 bytes)

end Sys2Proof.Machine
end

