-- ==== Sys2Proof/Config.lean ====
section
/-!
DEFINITION. The fixed figures of the part. The manual leaves no value of the part open, so there is no free
value here.
-/
namespace Sys2Proof.Config

/-- Size of the Parameter Store in bytes (R69). -/
def storeSize : Nat := 16384

/-- Size of each process image in bytes (R113). -/
def imageSize : Nat := 1024

/-- Most data bytes that one segment carries (R91). -/
def segmentData : Nat := 64

/-- Most data bytes of a STORE or CARD request (R70, R71, R106). -/
def requestData : Nat := 240

/-- The fixed margin M in µs (R118). -/
def marginMicros : Nat := 20

/-- Places of the Reply Queue (R175). -/
def replyPlaces : Nat := 8

/-- Waiting Return Frames that the Return line holds (R172). -/
def returnPlaces : Nat := 4

/-- Outstanding pass-throughs allowed at once (R106). -/
def passThroughs : Nat := 4

/-- Most notices that one NOTICE FETCH removes (R182). -/
def noticesPerFetch : Nat := 8

/-- Clean exchanges that clear the fault-run count (R11). -/
def cleanRunGoal : Nat := 4096

/-- The fault-run count at which a slot is quarantined (R9). -/
def quarantineCount : Nat := 3

/-- Identity read attempts in all (R43). -/
def identAttempts : Nat := 3

/-- Shortest and longest frame of the head link, CRC-32 included (R169). -/
def frameLimits : Nat × Nat := (5, 1280)

/-- The power-good filter in ms (R83). -/
def powerFilterMillis : Nat := 1

/-- The segment response timeout in µs (R92). -/
def responseTimeoutMicros : Nat := 200

end Sys2Proof.Config
end

