-- ==== Sys2Proof/Syntax.lean ====
section
/-!
DEFINITION. The commands of the coupler: one constructor for each row of spec/opcode_table.json.

A request carries its tag and its raw argument bytes (R190, R191), so that the length check of R173 and the value
checks of R193 belong to the meaning of the command (DESIGN CHOICE, log 7). An event of a slot carries the slot.
-/
namespace Sys2Proof

inductive Instr where
  /-- COLD_RESET (R25): power-on or the RESET line. -/
  | coldReset
  /-- PRESENCE_LINE_ASSERTED (R29, R32). -/
  | presenceLineAsserted (slot : Slot)
  /-- PRESENCE_LINE_DEASSERTED (R30, R32). -/
  | presenceLineDeasserted (slot : Slot)
  /-- INSERTION_DEBOUNCE_EXPIRY (R31). -/
  | insertionDebounceExpiry (slot : Slot)
  /-- REMOVAL_DEBOUNCE_EXPIRY (R33). -/
  | removalDebounceExpiry (slot : Slot)
  /-- SEGMENT_START (R90, R95). -/
  | segmentStart
  /-- SEGMENT_RESPONSE_TIMEOUT (R92). -/
  | segmentResponseTimeout
  /-- SEGMENT_END (R93): the bytes of the answer that arrived; they are not read when the timeout has expired. -/
  | segmentEnd (answer : List Byte)
  /-- RAMP_END (R81): the ramp timer of the slot expires. -/
  | rampEnd (slot : Slot)
  /-- POWER_GOOD_DEASSERTED (R83). -/
  | powerGoodDeasserted (slot : Slot)
  /-- POWER_GOOD_ASSERTED (R83). -/
  | powerGoodAsserted (slot : Slot)
  /-- POWER_GOOD_FILTER_EXPIRY (R83). -/
  | powerGoodFilterExpiry (slot : Slot)
  /-- CONFIGURATION_TIMEOUT (R104). -/
  | configurationTimeout (slot : Slot)
  /-- BUILD (R133). -/
  | build
  /-- CYCLE_FRAME (R148): the bytes of the frame after its kind byte, less the CRC-32. -/
  | cycleFrame (body : List Byte)
  /-- FRAME_SERVICE_START (R151, R152). -/
  | frameServiceStart
  /-- RESPONSE_WINDOW_CLOSE (R154): whether the response began within the window and was wholly received before it
  closed, and the bytes received. Silence is `false` and no bytes. -/
  | responseWindowClose (inWindow : Bool) (response : List Byte)
  /-- EXCHANGE_END (R155). -/
  | exchangeEnd
  /-- CYCLE_WATCHDOG_EXPIRY (R163). -/
  | cycleWatchdogExpiry
  /-- SAFE_EXCHANGE_TIMER_EXPIRY (R163). -/
  | safeExchangeTimerExpiry
  /-- SAFE_EXCHANGE_START (R164). -/
  | safeExchangeStart
  /-- BAD_CRC_FRAME (R169): the receiver discards a frame. -/
  | badCrcFrame
  /-- UPSTREAM_FRAME_END (R171). -/
  | upstreamFrameEnd
  /-- UNKNOWN_REQUEST (R173): a code that names no request. -/
  | unknownRequest (tag code : Byte) (args : List Byte)
  /-- NOTICE_FETCH (R182). -/
  | noticeFetch (tag : Byte) (args : List Byte)
  /-- SLOT_MODE (R18). -/
  | slotMode (tag : Byte) (args : List Byte)
  /-- SLOT_START (R19). -/
  | slotStart (tag : Byte) (args : List Byte)
  /-- SLOT_STOP (R20). -/
  | slotStop (tag : Byte) (args : List Byte)
  /-- SLOT_CLEAR (R21, R22). -/
  | slotClear (tag : Byte) (args : List Byte)
  /-- SLOT_READ (R23). -/
  | slotRead (tag : Byte) (args : List Byte)
  /-- PROFILE_LOAD (R64, R65). -/
  | profileLoad (tag : Byte) (args : List Byte)
  /-- PROFILE_DROP (R66). -/
  | profileDrop (tag : Byte) (args : List Byte)
  /-- PROFILE_PURGE (R67). -/
  | profilePurge (tag : Byte) (args : List Byte)
  /-- PROFILE_READ (R68). -/
  | profileRead (tag : Byte) (args : List Byte)
  /-- RULE_WRITE (R53). -/
  | ruleWrite (tag : Byte) (args : List Byte)
  /-- RULE_READ (R54). -/
  | ruleRead (tag : Byte) (args : List Byte)
  /-- RULE_DEFAULT (R55). -/
  | ruleDefault (tag : Byte) (args : List Byte)
  /-- STORE_WRITE (R70). -/
  | storeWrite (tag : Byte) (args : List Byte)
  /-- STORE_READ (R71). -/
  | storeRead (tag : Byte) (args : List Byte)
  /-- RACK_SET (R177, R178). -/
  | rackSet (tag : Byte) (args : List Byte)
  /-- RACK_READ (R180). -/
  | rackRead (tag : Byte) (args : List Byte)
  /-- MAP_READ (R143). -/
  | mapRead (tag : Byte) (args : List Byte)
  /-- CARD_READ (R106). -/
  | cardRead (tag : Byte) (args : List Byte)
  /-- CARD_WRITE (R106). -/
  | cardWrite (tag : Byte) (args : List Byte)
  /-- RESTART (R184). -/
  | restart (tag : Byte) (args : List Byte)
  deriving DecidableEq, Repr

end Sys2Proof
end

