-- ==== Sys2Proof/WellFormed.lean ====
section
/-!
DEFINITION. Which commands the world can send: the bounds that the head link and the backplane put on the bytes a
command carries. Every meaning is total, on ill-formed commands too.
-/
namespace Sys2Proof

/-- The request codes of R191. -/
def requestCodes : List Byte :=
  [1, 16, 17, 18, 19, 20, 32, 33, 34, 35, 48, 49, 50, 64, 65, 80, 81, 96, 112, 113, 128]

/-- A Request Frame of these argument bytes is at most 1280 bytes long: kind, tag, code and CRC-32 take seven (R169). -/
def argsFit (args : List Byte) : Bool := args.length + 7 ≤ Config.frameLimits.2

/-- The bounds of the commands that carry bytes; every other command is well formed. -/
def Instr.wellFormed : Instr → Bool
  | .coldReset => true
  | .presenceLineAsserted _ => true
  | .presenceLineDeasserted _ => true
  | .insertionDebounceExpiry _ => true
  | .removalDebounceExpiry _ => true
  | .segmentStart => true
  | .segmentResponseTimeout => true
  -- an answer is taken to last at most 10 × (8 + 64) bit times (R92)
  | .segmentEnd answer => answer.length ≤ 8 + Config.segmentData
  | .rampEnd _ => true
  | .powerGoodDeasserted _ => true
  | .powerGoodAsserted _ => true
  | .powerGoodFilterExpiry _ => true
  | .configurationTimeout _ => true
  | .build => true
  -- kind and CRC-32 take five bytes of at most 1280 (R169, R187)
  | .cycleFrame body => body.length + 5 ≤ Config.frameLimits.2
  | .frameServiceStart => true
  -- a window lasts 24 + 10 × (6 + Li) bit times with Li at most 128 (R57, R153)
  | .responseWindowClose _ response => response.length ≤ 6 + 128
  | .exchangeEnd => true
  | .cycleWatchdogExpiry => true
  | .safeExchangeTimerExpiry => true
  | .safeExchangeStart => true
  | .badCrcFrame => true
  | .upstreamFrameEnd => true
  -- the code names no request (R173)
  | .unknownRequest _ code args => !requestCodes.contains code && argsFit args
  | .noticeFetch _ args => argsFit args
  | .slotMode _ args => argsFit args
  | .slotStart _ args => argsFit args
  | .slotStop _ args => argsFit args
  | .slotClear _ args => argsFit args
  | .slotRead _ args => argsFit args
  | .profileLoad _ args => argsFit args
  | .profileDrop _ args => argsFit args
  | .profilePurge _ args => argsFit args
  | .profileRead _ args => argsFit args
  | .ruleWrite _ args => argsFit args
  | .ruleRead _ args => argsFit args
  | .ruleDefault _ args => argsFit args
  | .storeWrite _ args => argsFit args
  | .storeRead _ args => argsFit args
  | .rackSet _ args => argsFit args
  | .rackRead _ args => argsFit args
  | .mapRead _ args => argsFit args
  | .cardRead _ args => argsFit args
  | .cardWrite _ args => argsFit args
  | .restart _ args => argsFit args

end Sys2Proof
end

