-- ==== Sys2Proof/Decode.lean ====
section
/-!
DEFINITION. From bytes on the head link to commands (the receiver of R169) and back, and `decodeTableWord`, which
reads nothing: no row of spec/opcode_table.json gives bits.
-/
namespace Sys2Proof

open Machine (withCrc32 crc32 word32)

/-- The command of a Request Frame, by its request code (R191); a code that names no request is UNKNOWN_REQUEST (R173). -/
def requestCommand (tag code : Byte) (args : List Byte) : Instr :=
  match code.toNat with
  | 1 => .noticeFetch tag args
  | 16 => .slotMode tag args
  | 17 => .slotStart tag args
  | 18 => .slotStop tag args
  | 19 => .slotClear tag args
  | 20 => .slotRead tag args
  | 32 => .profileLoad tag args
  | 33 => .profileDrop tag args
  | 34 => .profilePurge tag args
  | 35 => .profileRead tag args
  | 48 => .ruleWrite tag args
  | 49 => .ruleRead tag args
  | 50 => .ruleDefault tag args
  | 64 => .storeWrite tag args
  | 65 => .storeRead tag args
  | 80 => .rackSet tag args
  | 81 => .rackRead tag args
  | 96 => .mapRead tag args
  | 112 => .cardRead tag args
  | 113 => .cardWrite tag args
  | 128 => .restart tag args
  | _ => .unknownRequest tag code args

/-- The command that the bytes of a frame spell once its CRC-32 has been taken off: the kind byte of R186, then a
Cycle Frame's body or a Request Frame's tag, code and arguments. Any other kind, and a Request Frame with no tag or
no code, is discarded (R169). -/
def payloadCommand : List Byte → Instr
  | [] => .badCrcFrame
  | kind :: rest =>
    if kind = 1 then .cycleFrame rest
    else if kind = 2 then
      match rest with
      | tag :: code :: args => requestCommand tag code args
      | _ => .badCrcFrame
    else .badCrcFrame

/-- The head-link receiver (R169): the command that a received frame becomes. `broken` says that a new start
delimiter arrived before the end delimiter. Every frame the receiver discards is BAD_CRC_FRAME. -/
def receiveFrame (broken : Bool) (frame : List Byte) : Instr :=
  let payload := frame.take (frame.length - 4)
  if broken || frame.length < Config.frameLimits.1 || frame.length > Config.frameLimits.2 then .badCrcFrame
  else if frame.drop (frame.length - 4) ≠ word32 (crc32 payload) then .badCrcFrame
  else payloadCommand payload

/-- The bytes of the frame that carries a command of the head link, less its CRC-32; none for any other command. -/
def commandPayload : Instr → Option (List Byte)
  | .cycleFrame body => some (1 :: body)
  | .noticeFetch tag args => some (2 :: tag :: 1 :: args)
  | .slotMode tag args => some (2 :: tag :: 16 :: args)
  | .slotStart tag args => some (2 :: tag :: 17 :: args)
  | .slotStop tag args => some (2 :: tag :: 18 :: args)
  | .slotClear tag args => some (2 :: tag :: 19 :: args)
  | .slotRead tag args => some (2 :: tag :: 20 :: args)
  | .profileLoad tag args => some (2 :: tag :: 32 :: args)
  | .profileDrop tag args => some (2 :: tag :: 33 :: args)
  | .profilePurge tag args => some (2 :: tag :: 34 :: args)
  | .profileRead tag args => some (2 :: tag :: 35 :: args)
  | .ruleWrite tag args => some (2 :: tag :: 48 :: args)
  | .ruleRead tag args => some (2 :: tag :: 49 :: args)
  | .ruleDefault tag args => some (2 :: tag :: 50 :: args)
  | .storeWrite tag args => some (2 :: tag :: 64 :: args)
  | .storeRead tag args => some (2 :: tag :: 65 :: args)
  | .rackSet tag args => some (2 :: tag :: 80 :: args)
  | .rackRead tag args => some (2 :: tag :: 81 :: args)
  | .mapRead tag args => some (2 :: tag :: 96 :: args)
  | .cardRead tag args => some (2 :: tag :: 112 :: args)
  | .cardWrite tag args => some (2 :: tag :: 113 :: args)
  | .restart tag args => some (2 :: tag :: 128 :: args)
  | .unknownRequest tag code args => some (2 :: tag :: code :: args)
  | .coldReset => none
  | .presenceLineAsserted _ => none
  | .presenceLineDeasserted _ => none
  | .insertionDebounceExpiry _ => none
  | .removalDebounceExpiry _ => none
  | .segmentStart => none
  | .segmentResponseTimeout => none
  | .segmentEnd _ => none
  | .rampEnd _ => none
  | .powerGoodDeasserted _ => none
  | .powerGoodAsserted _ => none
  | .powerGoodFilterExpiry _ => none
  | .configurationTimeout _ => none
  | .build => none
  | .frameServiceStart => none
  | .responseWindowClose _ _ => none
  | .exchangeEnd => none
  | .cycleWatchdogExpiry => none
  | .safeExchangeTimerExpiry => none
  | .safeExchangeStart => none
  | .badCrcFrame => none
  | .upstreamFrameEnd => none

/-- The frame that carries a command of the head link, CRC-32 included. -/
def commandFrame (c : Instr) : Option (List Byte) := (commandPayload c).map withCrc32

/-- The command that a word of the table spells: none, because no row of spec/opcode_table.json gives bits (log 8). -/
def decodeTableWord (_nbits _w : Nat) : Option Instr := none

end Sys2Proof
end

