-- ==== Sys2Proof/Machine/State.lean ====
section
/-!
DEFINITION. The state of the coupler: one record for each functional block of 00_scope.md, and the queue of the
commands that wait. Plain data throughout. Reset values are those the blocks' chapters state for a cold reset.
-/
namespace Sys2Proof.Machine

/-- Why the machine would stop. The coupler never stops: every command answers a next state, so there is no reason. -/
inductive Fault where
  deriving DecidableEq, Repr

/-- Why a command would have no meaning. -/
inductive Refusal where
  /-- Raised by `exec` alone, for a row that has no meaning yet. Safe: nothing follows from it. -/
  | notModelled (mnemonic : String)
  deriving DecidableEq, Repr

/-! ## Slot Table (chapter 1) -/

/-- The thirteen slot states (R4), in the order of their codes (R192). -/
inductive SlotState where
  | empty | settling | present | identifying | powerWait | rampQueued | ramping | configuring | mapWait | mapPending
  | running | faulted | quarantined
  deriving DecidableEq, Repr

/-- The slot modes (R14). -/
inductive Mode where
  | auto | manual | blocked
  deriving DecidableEq, Repr

/-- The park reasons (R1). -/
inductive ParkReason where
  | power | image | cycle
  deriving DecidableEq, Repr

/-- The ten fault reasons (R10), in the order of their codes (R192). -/
inductive FaultReason where
  | identTimeout | identFormat | noMatch | profileAbsent | powerFail | powerLost | cardRefused | cardTimeout
  | configTimeout | responseLost
  deriving DecidableEq, Repr

/-- A card's identity record (R39). -/
structure IdentityRecord where
  vendor : Half
  type : Half
  hardware : Byte
  format : Byte
  firmware : Half
  serial : BitVec 32
  deriving DecidableEq, Repr

/-- One slot record (R1). The power claim field of R1 mirrors the Power Controller's claim and is a view of it
(`State.powerClaim`). -/
structure SlotRecord where
  state : SlotState
  mode : Mode
  cardPresent : Bool
  epoch : Epoch
  identity : Option IdentityRecord
  profileIndex : Option ProfileIndex
  parkReason : Option ParkReason
  faultReason : Option FaultReason
  cardCode : Option Byte
  faultRun : Nat
  cleanRun : Nat
  deriving DecidableEq, Repr

/-- The slot record after a cold reset (R1, R25). -/
def SlotRecord.reset : SlotRecord :=
  { state := .empty, mode := .auto, cardPresent := false, epoch := 0, identity := none, profileIndex := none,
    parkReason := none, faultReason := none, cardCode := none, faultRun := 0, cleanRun := 0 }

/-! ## Presence Monitor (chapter 2) -/

/-- The presence phases (R27). -/
inductive Phase where
  | absent | inserting | seated | removing
  deriving DecidableEq, Repr

/-- The debounce timer of a slot with its duration in ms (R27, R28). An insertion debounce keeps the epoch that the
slot had when it started, for its report (R31). -/
inductive DebounceTimer where
  | stopped
  | insertion (millis : Nat) (epoch : Epoch)
  | removal (millis : Nat)
  deriving DecidableEq, Repr

/-- What the Presence Monitor holds for a slot (R27): phase, timer, the line level last seen (an input pin) and the
auxiliary-supply switch (an output pin). -/
structure PresenceRecord where
  phase : Phase
  timer : DebounceTimer
  line : Bool
  auxSupply : Bool
  deriving DecidableEq, Repr

/-- Presence after a cold reset (R37), with the line level given. -/
def PresenceRecord.reset (line : Bool) : PresenceRecord :=
  { phase := .absent, timer := .stopped, line := line, auxSupply := false }

/-! ## Identity Matcher (chapter 3) -/

/-- The attempt record of a slot in IDENTIFYING (R40). -/
structure Attempt where
  epoch : Epoch
  number : Nat
  deriving DecidableEq, Repr

/-- What an identity rule tests (R47). -/
inductive RuleField where
  | vendor | type | hwRev | fwRev | serial | slot
  deriving DecidableEq, Repr

/-- How an identity rule compares (R47). -/
inductive RuleOperator where
  | equal | notEqual | atLeast | atMost
  deriving DecidableEq, Repr

/-- A rule's action field (R46). -/
inductive RuleAction where
  | reject | assign
  deriving DecidableEq, Repr

/-- One rule of the Identity Rule Table (R46). -/
structure Rule where
  enabled : Bool
  field : RuleField
  operator : RuleOperator
  mask : BitVec 32
  value : BitVec 32
  chain : Bool
  action : RuleAction
  profile : ProfileIndex
  deriving DecidableEq, Repr

/-- A rule after a cold reset (R56). -/
def Rule.reset : Rule :=
  { enabled := false, field := .vendor, operator := .equal, mask := 0, value := 0, chain := false, action := .reject,
    profile := 0 }

/-- A decision: the default action (R50, R55), and the outcome of an evaluation. -/
inductive Decision where
  | reject
  | assign (profile : ProfileIndex)
  deriving DecidableEq, Repr

structure Matcher where
  attempts : Vector (Option Attempt) 16
  rules : Vector Rule 24
  defaultAction : Decision
  deriving DecidableEq, Repr

def Matcher.reset : Matcher :=
  { attempts := Vector.replicate 16 none, rules := Vector.replicate 24 Rule.reset, defaultAction := .reject }

/-! ## Profile Table and Parameter Store (chapter 4) -/

/-- A parameter record (R58). -/
structure ParameterRecord where
  offset : Nat
  length : Nat
  parameter : Byte
  deriving DecidableEq, Repr

/-- The safe-output modes (R59). -/
inductive SafeMode where
  | zero | hold | pattern
  deriving DecidableEq, Repr

/-- One profile (R57). Power draw in 10 mW units, times in ms, lengths in bytes. -/
structure Profile where
  valid : Bool
  locked : Bool
  powerDraw : Nat
  rampTime : Nat
  configTimeout : Nat
  outputLength : Nat
  inputLength : Nat
  alignment : Nat
  safeMode : SafeMode
  patternOffset : Option Nat
  records : List ParameterRecord
  deriving DecidableEq, Repr

/-- An invalid profile: the last column of R57. -/
def Profile.reset : Profile :=
  { valid := false, locked := false, powerDraw := 1, rampTime := 1, configTimeout := 10, outputLength := 0,
    inputLength := 0, alignment := 1, safeMode := .zero, patternOffset := none, records := [] }

/-- The Parameter Store (R69) in canonical form: offsets strictly rising, no byte 0; an unlisted offset reads as 0,
its contents after a cold reset. -/
structure Memory where
  cells : List Host.Cell
  deriving DecidableEq, Repr

structure Library where
  profiles : Vector Profile 32
  store : Memory
  deriving DecidableEq, Repr

def Library.reset : Library := { profiles := Vector.replicate 32 Profile.reset, store := { cells := [] } }

/-! ## Power Controller (chapter 5) -/

/-- A claim on the power budget, with the slot's epoch at the grant (R73). -/
structure Claim where
  amount : Nat
  epoch : Epoch
  deriving DecidableEq, Repr

/-- The power record of a slot (R73): the main-supply switch (an output pin), the claim, the ramp timer with its
duration in ms, whether the 1 ms power-good filter runs, monitoring, and the power-good line (an input pin). -/
structure PowerRecord where
  mainSupply : Bool
  claim : Option Claim
  rampTimer : Option Nat
  filter : Bool
  monitoring : Bool
  powerGood : Bool
  deriving DecidableEq, Repr

/-- A power record after a reset (R86, R87), with the power-good level given. -/
def PowerRecord.reset (powerGood : Bool) : PowerRecord :=
  { mainSupply := false, claim := none, rampTimer := none, filter := false, monitoring := false, powerGood := powerGood }

/-- The Power Controller (R73). The sum of claims and ramp in progress are views (`sumOfClaims`, `rampInProgress`). -/
structure PowerController where
  slots : Vector PowerRecord 16
  waitList : List Slot
  rampQueue : List Slot
  arbiter : Option Slot
  deriving DecidableEq, Repr

def PowerController.reset : PowerController :=
  { slots := Vector.replicate 16 (PowerRecord.reset false), waitList := [], rampQueue := [], arbiter := none }

/-! ## Service Channel Controller (chapter 6) -/

/-- The four kinds of service transaction (R88), in the order of their codes (R202). -/
inductive ServiceKind where
  | identRead | paramWrite | paramCommit | paramRead
  deriving DecidableEq, Repr

/-- Who asked for a transaction (R88). -/
inductive Origin where
  | sequencer | passThrough
  deriving DecidableEq, Repr

/-- Where a PARAM WRITE takes its bytes from (R88). -/
inductive DataSource where
  | storeRange (offset length : Nat)
  | carried (bytes : List Byte)
  deriving DecidableEq, Repr

/-- A service transaction (R88). `recordNumber` is the model's own: the number of the download record that a
download's PARAM WRITE writes, which R101 compares with the step (log 24). -/
structure Transaction where
  kind : ServiceKind
  origin : Origin
  slot : Slot
  epoch : Epoch
  parameter : Option Byte
  totalLength : Nat
  position : Nat
  repeatUsed : Bool
  source : Option DataSource
  gathered : List Byte
  replyTag : Option Byte
  recordNumber : Option Nat
  deriving DecidableEq, Repr

/-- The segment that occupies the backplane (R92). `live` says that its transaction is still in flight (R97);
`timedOut` that the response timeout has expired; `bitTime` is fixed at its start, in ns (R96). -/
structure Segment where
  live : Bool
  timedOut : Bool
  bitTime : Nat
  telegram : List Byte
  deriving DecidableEq, Repr

/-- A download's step (R100). -/
inductive DownloadStep where
  | record (number : Nat)
  | commit
  deriving DecidableEq, Repr

/-- The download of a slot in CONFIGURING (R100). -/
structure Download where
  epoch : Epoch
  profile : ProfileIndex
  step : DownloadStep
  timeout : Nat
  deriving DecidableEq, Repr

structure ServiceChannel where
  queue : List Transaction
  inFlight : Option Transaction
  segment : Option Segment
  downloads : Vector (Option Download) 16
  deriving DecidableEq, Repr

def ServiceChannel.reset : ServiceChannel :=
  { queue := [], inFlight := none, segment := none, downloads := Vector.replicate 16 none }

/-! ## Map Builder (chapters 7 and 8) -/

/-- A range of bytes of an image: from `offset` up to, but not including, `offset + length`. -/
structure Region where
  offset : Nat
  length : Nat
  deriving DecidableEq, Repr

/-- A map entry (R111). -/
structure MapEntry where
  slot : Slot
  epoch : Epoch
  profile : ProfileIndex
  output : Option Region
  input : Option Region
  deriving DecidableEq, Repr

/-- A process-image map: a generation and its entries, in slot order (R126). -/
structure ImageMap where
  generation : Nat
  entries : List MapEntry
  deriving DecidableEq, Repr

/-- An entry of the Change List (R129). -/
inductive Change where
  | add (slot : Slot)
  | drop (slot : Slot)
  deriving DecidableEq, Repr

structure MapBuilder where
  active : ImageMap
  offered : Option ImageMap
  changes : List Change
  waitList : List Slot
  recheck : Bool
  deriving DecidableEq, Repr

/-- The Map Builder after a reset (R144, R145). -/
def MapBuilder.reset : MapBuilder :=
  { active := { generation := 1, entries := [] }, offered := none, changes := [], waitList := [], recheck := false }

/-! ## Cycle Engine (chapter 9) -/

/-- The rack states (R147). -/
inductive RackState where
  | idle | run | safe
  deriving DecidableEq, Repr

/-- The class of an acceptable Cycle Frame (R128). -/
inductive FrameClass where
  | active | offered
  deriving DecidableEq, Repr

/-- An accepted Cycle Frame (R151). -/
structure HeldFrame where
  frameClass : FrameClass
  cycleCount : Half
  output : List Byte
  deriving DecidableEq, Repr

/-- One member of an exchange's addressed set, as fixed at its start (R152). -/
structure Addressed where
  slot : Slot
  epoch : Epoch
  inputLength : Nat
  deriving DecidableEq, Repr

/-- The outcome of a response window (R154). -/
inductive WindowOutcome where
  | good (data : List Byte) (diag : Bool)
  | miss
  deriving DecidableEq, Repr

/-- The kinds of exchange; a normal one keeps the cycle count of the frame it serves (R153, R159). -/
inductive ExchangeKind where
  | normal (cycleCount : Half)
  | safe
  deriving DecidableEq, Repr

/-- The exchange on the backplane (R152, R153). `outcomes` holds the windows closed so far, in order; `cut` says that
a restart has cut it off (R168). -/
structure Exchange where
  kind : ExchangeKind
  addressed : List Addressed
  outcomes : List WindowOutcome
  bitTime : Nat
  telegram : List Byte
  cut : Bool
  deriving DecidableEq, Repr

/-- What the Cycle Engine holds for a slot (R146). -/
structure CycleSlot where
  missCount : Nat
  lastOutput : List Byte
  lastInput : List Byte
  inputValid : Bool
  cardDiag : Bool
  deriving DecidableEq, Repr

/-- A slot's cycle state after a reset: the zeroed buffers of a slot with no lengths are empty (R167, log 18). -/
def CycleSlot.reset : CycleSlot :=
  { missCount := 0, lastOutput := [], lastInput := [], inputValid := false, cardDiag := false }

/-- The Cycle Engine (R146). Timers hold their durations in µs. -/
structure CycleEngine where
  rackState : RackState
  holder : Option HeldFrame
  exchange : Option Exchange
  lastCount : Option Half
  watchdog : Option Nat
  safeTimer : Option Nat
  safeDue : Bool
  slots : Vector CycleSlot 16
  deriving DecidableEq, Repr

/-- The Cycle Engine after a cold reset (R167). -/
def CycleEngine.reset : CycleEngine :=
  { rackState := .idle, holder := none, exchange := none, lastCount := none, watchdog := none, safeTimer := none,
    safeDue := false, slots := Vector.replicate 16 CycleSlot.reset }

/-! ## Management Unit (chapter 10) -/

/-- The backplane rates (R176). -/
inductive Rate where
  | mbit12 | mbit25 | mbit50
  deriving DecidableEq, Repr

/-- The admission setting (R16). -/
inductive Admission where
  | closed | opened
  deriving DecidableEq, Repr

/-- The rack settings (R176): T and A in µs, budget in 10 mW units, debounces in ms. -/
structure RackSettings where
  rate : Rate
  period : Nat
  reserve : Nat
  budget : Nat
  admission : Admission
  missLimit : Nat
  rampGrace : Nat
  watchdog : Nat
  insertionDebounce : Nat
  removalDebounce : Nat
  deriving DecidableEq, Repr

/-- The defaults of R176. -/
def RackSettings.reset : RackSettings :=
  { rate := .mbit25, period := 1000, reserve := 200, budget := 0, admission := .closed, missLimit := 3, rampGrace := 2,
    watchdog := 4, insertionDebounce := 100, removalDebounce := 5 }

/-- The seven link counters (R179). -/
structure LinkCounters where
  badCrc : Nat
  malformed : Nat
  mismatch : Nat
  short : Nat
  overlap : Nat
  long : Nat
  dropped : Nat
  deriving DecidableEq, Repr

def LinkCounters.reset : LinkCounters :=
  { badCrc := 0, malformed := 0, mismatch := 0, short := 0, overlap := 0, long := 0, dropped := 0 }

/-- The contents of a notice (R181). -/
inductive NoticeBody where
  | slot (slot : Slot) (state : SlotState) (epoch : Epoch) (reason : Option FaultReason) (diag : Bool)
  | mapOffered (generation : Nat) (placed removed : List Slot)
  | mapTaken (generation : Nat)
  | rackSafe (lastCount : Half)
  | rackResumed (generation : Nat)
  deriving DecidableEq, Repr

/-- A queued notice with its change count (R181). -/
structure Notice where
  count : Nat
  body : NoticeBody
  deriving DecidableEq, Repr

/-- The reasons of a refusal (R174), in the order of their codes (R190). -/
inductive Reason where
  | badArgument | wrongState | inUse | locked | noFit | busy
  deriving DecidableEq, Repr

/-- The result of a request (R174). -/
inductive Result where
  | done
  | refused (reason : Reason)
  | cardRefused (code : Byte)
  | cardTimeout
  | slotLeft
  deriving DecidableEq, Repr

/-- A Reply Frame (R174, R190): tag, request code, result and the bytes of its contents. -/
structure ReplyFrame where
  tag : Byte
  code : Byte
  result : Result
  contents : List Byte
  deriving DecidableEq, Repr

/-- The result field of a Return Frame (R188): accepted, or why the frame was refused (R148). -/
inductive FrameResult where
  | accepted | malformed | mismatch | short | overlap
  deriving DecidableEq, Repr

/-- The rack condition (R24). -/
inductive RackCondition where
  | steady | changing | fault
  deriving DecidableEq, Repr

/-- The state classes of the slot status byte (R161), in the order of their codes (R189). -/
inductive StateClass where
  | vacant | waiting | starting | pending | running | faulted | quarantined
  deriving DecidableEq, Repr

/-- The items of a slot status byte (R161). -/
structure SlotStatus where
  stateClass : StateClass
  inputValid : Bool
  cardDiag : Bool
  noticeQueued : Bool
  deriving DecidableEq, Repr

/-- A Return Frame (R149, R159); `status` is empty in a header-only one. -/
structure ReturnFrame where
  result : FrameResult
  generation : Nat
  offered : Nat
  cycleCount : Half
  rackState : RackState
  condition : RackCondition
  noticeCount : Nat
  inputLength : Nat
  status : List SlotStatus
  image : List Byte
  deriving DecidableEq, Repr

/-- The upstream transmitter (R171), with the bytes on the wire. -/
inductive Transmitter where
  | idle
  | sendingReturn (bytes : List Byte)
  | sendingReply (bytes : List Byte)
  deriving DecidableEq, Repr

/-- An outstanding pass-through (R106): tag, slot, epoch, and whether it writes. -/
structure PassThrough where
  tag : Byte
  slot : Slot
  epoch : Epoch
  write : Bool
  deriving DecidableEq, Repr

/-- The Management Unit. The Reply Queue's frame that is being sent stands in the transmitter. `receiver` is the head
link's receiver (R169, R170): the bytes so far of the frame being received, `none` between frames. -/
structure Management where
  receiver : Option (List Byte)
  settings : RackSettings
  counters : LinkCounters
  notices : List Notice
  transmitter : Transmitter
  returnLine : List ReturnFrame
  replyQueue : List ReplyFrame
  outstanding : List PassThrough
  deriving DecidableEq, Repr

def Management.reset : Management :=
  { receiver := none, settings := RackSettings.reset, counters := LinkCounters.reset, notices := [], transmitter := .idle,
    returnLine := [], replyQueue := [], outstanding := [] }

/-! ## The whole coupler -/

/-- The nine blocks and the queue of commands that wait, first in, first out (log 1). -/
structure State where
  slots : Vector SlotRecord 16
  presence : Vector PresenceRecord 16
  matcher : Matcher
  library : Library
  power : PowerController
  service : ServiceChannel
  maps : MapBuilder
  cycle : CycleEngine
  mgmt : Management
  pending : List Instr
  deriving DecidableEq, Repr

/-- The coupler right after a cold reset, before presence is re-detected, with every line deasserted (DESIGN CHOICE
for the levels of the input pins, log 5) and no command waiting. -/
def State.reset : State :=
  { slots := Vector.replicate 16 SlotRecord.reset
    presence := Vector.replicate 16 (PresenceRecord.reset false)
    matcher := Matcher.reset
    library := Library.reset
    power := PowerController.reset
    service := ServiceChannel.reset
    maps := MapBuilder.reset
    cycle := CycleEngine.reset
    mgmt := Management.reset
    pending := [] }

end Sys2Proof.Machine
end

