-- ==== Sys2Proof/Machine/Access.lean ====
section
/-!
DEFINITION. Reading and updating the tables of State: one reader and one updater for each kind of per-slot record.
-/
namespace Sys2Proof.Machine

/-- The record at an index of a table. -/
def look {α : Type} {n : Nat} (t : Vector α n) (k : Fin n) : α := t[k.val]'k.isLt

/-- A table with the record at an index changed. -/
def amend {α : Type} {n : Nat} (t : Vector α n) (k : Fin n) (f : α → α) : Vector α n :=
  t.set k.val (f (look t k)) k.isLt

/-- A table with every record changed. -/
def amendAll {α β : Type} {n : Nat} (t : Vector α n) (f : α → β) : Vector β n := Vector.ofFn fun k => f (look t k)

/-! ## Readers -/

def State.slot (s : State) (k : Slot) : SlotRecord := look s.slots k
def State.pres (s : State) (k : Slot) : PresenceRecord := look s.presence k
def State.attempt (s : State) (k : Slot) : Option Attempt := look s.matcher.attempts k
def State.profile (s : State) (p : ProfileIndex) : Profile := look s.library.profiles p
def State.pow (s : State) (k : Slot) : PowerRecord := look s.power.slots k
def State.download (s : State) (k : Slot) : Option Download := look s.service.downloads k
def State.cyc (s : State) (k : Slot) : CycleSlot := look s.cycle.slots k
def State.settings (s : State) : RackSettings := s.mgmt.settings

/-- The slot record's power claim field, a view of the Power Controller's claim (R1, R73). -/
def State.powerClaim (s : State) (k : Slot) : Option Nat := (s.pow k).claim.map (·.amount)

/-- The profile that a slot record names (R61). A slot that names none is never asked (log 20). -/
def State.profileOf (s : State) (k : Slot) : Profile := s.profile ((s.slot k).profileIndex.getD 0)

/-! ## Updaters -/

def State.modSlot (s : State) (k : Slot) (f : SlotRecord → SlotRecord) : State :=
  { s with slots := amend s.slots k f }

def State.modPres (s : State) (k : Slot) (f : PresenceRecord → PresenceRecord) : State :=
  { s with presence := amend s.presence k f }

def State.setAttempt (s : State) (k : Slot) (a : Option Attempt) : State :=
  { s with matcher := { s.matcher with attempts := amend s.matcher.attempts k fun _ => a } }

def State.setProfile (s : State) (p : ProfileIndex) (r : Profile) : State :=
  { s with library := { s.library with profiles := amend s.library.profiles p fun _ => r } }

def State.setStore (s : State) (m : Memory) : State := { s with library := { s.library with store := m } }

def State.modPower (s : State) (f : PowerController → PowerController) : State := { s with power := f s.power }

def State.modPow (s : State) (k : Slot) (f : PowerRecord → PowerRecord) : State :=
  s.modPower fun p => { p with slots := amend p.slots k f }

def State.modService (s : State) (f : ServiceChannel → ServiceChannel) : State := { s with service := f s.service }

def State.setDownload (s : State) (k : Slot) (d : Option Download) : State :=
  s.modService fun c => { c with downloads := amend c.downloads k fun _ => d }

def State.modMaps (s : State) (f : MapBuilder → MapBuilder) : State := { s with maps := f s.maps }

def State.modCycle (s : State) (f : CycleEngine → CycleEngine) : State := { s with cycle := f s.cycle }

def State.modCyc (s : State) (k : Slot) (f : CycleSlot → CycleSlot) : State :=
  s.modCycle fun c => { c with slots := amend c.slots k f }

def State.modMgmt (s : State) (f : Management → Management) : State := { s with mgmt := f s.mgmt }

/-- Runs an action for each slot of a list, in its order (R6: "in slot order"). -/
def eachSlot (ks : List Slot) (act : Slot → State → State) (s : State) : State :=
  ks.foldl (fun s k => act k s) s

end Sys2Proof.Machine
end

