-- ==== Sys2Proof/Machine/Operands.lean ====
section
/-!
DEFINITION. Operand forms: the codes of R192, the arguments of each request (R191), and the layouts of chapter 11 for
records, replies, frames and telegrams. A parser answers `none` where the request is refused BAD_ARGUMENT: for the
number of its argument bytes (R173), for an enumerated value or a flag (R193), or for the owning block's own
BAD_ARGUMENT check, which is the first check of every request.
-/
namespace Sys2Proof.Machine

/-! ## Enumerated values (R192) -/

def slotByte (k : Slot) : Byte := byteOf (slotNumber k)

/-- A slot number outside 1..16 is refused BAD_ARGUMENT (R17, R106). -/
def slotOf (b : Byte) : Option Slot :=
  if h : 1 ≤ b.toNat ∧ b.toNat ≤ 16 then some ⟨b.toNat - 1, by omega⟩ else none

def profileIndexOf (b : Byte) : Option ProfileIndex := if h : b.toNat < 32 then some ⟨b.toNat, h⟩ else none

def ruleIndexOf (b : Byte) : Option RuleIndex := if h : b.toNat < 24 then some ⟨b.toNat, h⟩ else none

def modeByte : Mode → Byte
  | .auto => 0 | .manual => 1 | .blocked => 2

def modeOf (b : Byte) : Option Mode :=
  match b.toNat with
  | 0 => some .auto | 1 => some .manual | 2 => some .blocked | _ => none

def rateByte : Rate → Byte
  | .mbit12 => 1 | .mbit25 => 2 | .mbit50 => 3

def rateOf (b : Byte) : Option Rate :=
  match b.toNat with
  | 1 => some .mbit12 | 2 => some .mbit25 | 3 => some .mbit50 | _ => none

def admissionByte : Admission → Byte
  | .closed => 0 | .opened => 1

def admissionOf (b : Byte) : Option Admission :=
  match b.toNat with
  | 0 => some .closed | 1 => some .opened | _ => none

def safeModeByte : SafeMode → Byte
  | .zero => 0 | .hold => 1 | .pattern => 2

def safeModeOf (b : Byte) : Option SafeMode :=
  match b.toNat with
  | 0 => some .zero | 1 => some .hold | 2 => some .pattern | _ => none

def ruleFieldByte : RuleField → Byte
  | .vendor => 0 | .type => 1 | .hwRev => 2 | .fwRev => 3 | .serial => 4 | .slot => 5

def ruleFieldOf (b : Byte) : Option RuleField :=
  match b.toNat with
  | 0 => some .vendor | 1 => some .type | 2 => some .hwRev | 3 => some .fwRev | 4 => some .serial | 5 => some .slot
  | _ => none

def operatorByte : RuleOperator → Byte
  | .equal => 0 | .notEqual => 1 | .atLeast => 2 | .atMost => 3

def operatorOf (b : Byte) : Option RuleOperator :=
  match b.toNat with
  | 0 => some .equal | 1 => some .notEqual | 2 => some .atLeast | 3 => some .atMost | _ => none

def actionByte : RuleAction → Byte
  | .reject => 0 | .assign => 1

def actionOf (b : Byte) : Option RuleAction :=
  match b.toNat with
  | 0 => some .reject | 1 => some .assign | _ => none

def slotStateByte : SlotState → Byte
  | .empty => 0 | .settling => 1 | .present => 2 | .identifying => 3 | .powerWait => 4 | .rampQueued => 5
  | .ramping => 6 | .configuring => 7 | .mapWait => 8 | .mapPending => 9 | .running => 10 | .faulted => 11
  | .quarantined => 12

def faultReasonByte : FaultReason → Byte
  | .identTimeout => 1 | .identFormat => 2 | .noMatch => 3 | .profileAbsent => 4 | .powerFail => 5 | .powerLost => 6
  | .cardRefused => 7 | .cardTimeout => 8 | .configTimeout => 9 | .responseLost => 10

def parkReasonByte : ParkReason → Byte
  | .power => 1 | .image => 2 | .cycle => 3

def rackStateCode : RackState → Nat
  | .idle => 0 | .run => 1 | .safe => 2

def rackConditionCode : RackCondition → Nat
  | .steady => 0 | .changing => 1 | .fault => 2

def stateClassCode : StateClass → Nat
  | .vacant => 0 | .waiting => 1 | .starting => 2 | .pending => 3 | .running => 4 | .faulted => 5 | .quarantined => 6

def frameResultByte : FrameResult → Byte
  | .accepted => 0 | .malformed => 1 | .mismatch => 2 | .short => 3 | .overlap => 4

def reasonByte : Reason → Byte
  | .badArgument => 1 | .wrongState => 2 | .inUse => 3 | .locked => 4 | .noFit => 5 | .busy => 6

def serviceKindCode : ServiceKind → Nat
  | .identRead => 0 | .paramWrite => 1 | .paramCommit => 2 | .paramRead => 3

/-- An optional field without a presence byte: 0 stands for absent (R195). -/
def optionalByte {α : Type} (code : α → Byte) (v : Option α) : Byte := (v.map code).getD 0

/-- A value below a range is taken as its lower end, one above as its upper end (R28, R60, R84, R162, R166). -/
def clamp (low high v : Nat) : Nat := max low (min v high)

/-! ## Arguments of requests (R191) -/

/-- No argument: NOTICE FETCH, PROFILE PURGE, RESTART. -/
def noArgs : List Byte → Option Unit
  | [] => some ()
  | _ => none

/-- SLOT START, SLOT STOP, SLOT CLEAR, SLOT READ: the slot (R17). -/
def slotArgs : List Byte → Option Slot
  | [k] => slotOf k
  | _ => none

/-- SLOT MODE: slot and mode (R18). -/
def slotModeArgs : List Byte → Option (Slot × Mode)
  | [k, m] => (slotOf k).bind fun k => (modeOf m).map fun m => (k, m)
  | _ => none

/-- The parameter records of a PROFILE LOAD, five bytes each. -/
def recordArgs : List Byte → Option (List ParameterRecord)
  | [] => some []
  | o1 :: o0 :: l1 :: l0 :: p :: rest => (recordArgs rest).map fun rs => ⟨nat16 o1 o0, nat16 l1 l0, p⟩ :: rs
  | _ => none

/-- A record's length is 1..1024 and its range lies in the store (R58, R64). -/
def ParameterRecord.legal (r : ParameterRecord) : Bool :=
  1 ≤ r.length && r.length ≤ 1024 && r.offset < Config.storeSize && r.offset + r.length ≤ Config.storeSize

/-- A pattern offset lies in the store, and so does the pattern's range (R59, R64). -/
def patternLegal (offset outputLength : Nat) : Bool :=
  offset < Config.storeSize && offset + outputLength ≤ Config.storeSize

/-- PROFILE LOAD: the index and the profile as it is stored when the load is taken, with the clamping of R60 and
without the pattern offset unless the mode is PATTERN (R64, R65). -/
def profileLoadArgs : List Byte → Option (ProfileIndex × Profile)
  | i :: lk :: p1 :: p0 :: r1 :: r0 :: c1 :: c0 :: ol :: il :: al :: sm :: o1 :: o0 :: n :: rest =>
    (profileIndexOf i).bind fun index => (flagOf lk).bind fun locked => (safeModeOf sm).bind fun mode =>
    (recordArgs rest).bind fun records =>
      let pattern := nat16 o1 o0
      if records.length = n.toNat && n.toNat ≤ 8 && ol.toNat ≤ 128 && il.toNat ≤ 128
          && (al = 1 || al = 2 || al = 4) && records.all (·.legal)
          && (mode ≠ .pattern || patternLegal pattern ol.toNat) then
        some (index,
          { valid := true, locked := locked, powerDraw := clamp 1 2000 (nat16 p1 p0)
            rampTime := clamp 1 250 (nat16 r1 r0), configTimeout := clamp 10 10000 (nat16 c1 c0)
            outputLength := ol.toNat, inputLength := il.toNat, alignment := al.toNat, safeMode := mode
            patternOffset := if mode = .pattern then some pattern else none, records := records })
      else none
  | _ => none

/-- PROFILE DROP: index and force flag (R66). -/
def profileDropArgs : List Byte → Option (ProfileIndex × Bool)
  | [i, f] => (profileIndexOf i).bind fun i => (flagOf f).map fun f => (i, f)
  | _ => none

/-- PROFILE READ: index (R68). -/
def profileReadArgs : List Byte → Option ProfileIndex
  | [i] => profileIndexOf i
  | _ => none

/-- RULE WRITE: index and every field of a rule (R53). -/
def ruleWriteArgs : List Byte → Option (RuleIndex × Rule)
  | [i, en, f, op, m3, m2, m1, m0, v3, v2, v1, v0, ch, ac, p] =>
    (ruleIndexOf i).bind fun i => (flagOf en).bind fun en => (ruleFieldOf f).bind fun f =>
    (operatorOf op).bind fun op => (flagOf ch).bind fun ch => (actionOf ac).bind fun ac =>
    (profileIndexOf p).map fun p =>
      (i, { enabled := en, field := f, operator := op, mask := m3 ++ m2 ++ m1 ++ m0, value := v3 ++ v2 ++ v1 ++ v0
            chain := ch, action := ac, profile := p })
  | _ => none

/-- RULE READ: index (R54). -/
def ruleReadArgs : List Byte → Option RuleIndex
  | [i] => ruleIndexOf i
  | _ => none

/-- RULE DEFAULT: action and profile index, which is not checked with REJECT (R55, R193). -/
def ruleDefaultArgs : List Byte → Option Decision
  | [a, p] =>
    (actionOf a).bind fun a =>
      match a with
      | .reject => some .reject
      | .assign => (profileIndexOf p).map .assign
  | _ => none

/-- STORE WRITE: offset and 1..240 bytes inside the store (R70). -/
def storeWriteArgs : List Byte → Option (Nat × List Byte)
  | o1 :: o0 :: n :: data =>
    let offset := nat16 o1 o0
    if data.length = n.toNat && 1 ≤ n.toNat && n.toNat ≤ Config.requestData && offset < Config.storeSize
        && offset + n.toNat ≤ Config.storeSize then some (offset, data) else none
  | _ => none

/-- STORE READ: offset and a length of 1..240 inside the store (R71). -/
def storeReadArgs : List Byte → Option (Nat × Nat)
  | [o1, o0, n] =>
    let offset := nat16 o1 o0
    if 1 ≤ n.toNat && n.toNat ≤ Config.requestData && offset < Config.storeSize
        && offset + n.toNat ≤ Config.storeSize then some (offset, n.toNat) else none
  | _ => none

/-- RACK SET: a value for every setting, as carried (R177). The rate, the period and admission are checked here; the
reserve is checked against the rate's minimum later, and five settings are clamped. -/
def rackSetArgs : List Byte → Option RackSettings
  | [r, t1, t0, a1, a0, b1, b0, ad, ml, rg, w, i1, i0, rd] =>
    (rateOf r).bind fun rate => (admissionOf ad).bind fun admission =>
      let period := nat16 t1 t0
      if 250 ≤ period && period ≤ 10000 then
        some { rate := rate, period := period, reserve := nat16 a1 a0, budget := nat16 b1 b0, admission := admission
               missLimit := ml.toNat, rampGrace := rg.toNat, watchdog := w.toNat
               insertionDebounce := nat16 i1 i0, removalDebounce := rd.toNat }
      else none
  | _ => none

/-- The five clamped settings of R176, each set to its range end where it lies outside (R178). -/
def RackSettings.clamped (r : RackSettings) : RackSettings :=
  { r with missLimit := clamp 1 15 r.missLimit, rampGrace := clamp 0 15 r.rampGrace, watchdog := clamp 2 255 r.watchdog
           insertionDebounce := clamp 10 500 r.insertionDebounce, removalDebounce := clamp 1 50 r.removalDebounce }

/-- RACK READ: the clear flag (R180). -/
def rackReadArgs : List Byte → Option Bool
  | [c] => flagOf c
  | _ => none

/-- MAP READ: the selector, ACTIVE or OFFERED (R143). -/
def mapReadArgs : List Byte → Option FrameClass
  | [b] => if b = 0 then some .active else if b = 1 then some .offered else none
  | _ => none

/-- CARD READ: slot, card parameter index and a length of 1..240 (R106). -/
def cardReadArgs : List Byte → Option (Slot × Byte × Nat)
  | [k, p, n] =>
    (slotOf k).bind fun k => if 1 ≤ n.toNat && n.toNat ≤ Config.requestData then some (k, p, n.toNat) else none
  | _ => none

/-- CARD WRITE: the same fields and the data bytes, as many as the length says (R106). -/
def cardWriteArgs : List Byte → Option (Slot × Byte × List Byte)
  | k :: p :: n :: data =>
    (slotOf k).bind fun k =>
      if data.length = n.toNat && 1 ≤ n.toNat && n.toNat ≤ Config.requestData then some (k, p, data) else none
  | _ => none

/-! ## Records and reply contents -/

/-- The twelve bytes of an identity record (R199). -/
def identityBytes (r : IdentityRecord) : List Byte :=
  half16 r.vendor ++ half16 r.type ++ [r.hardware, r.format] ++ half16 r.firmware ++ word32 r.serial

/-- The identity record that twelve bytes hold (R199); any other number of bytes holds none (R42). -/
def identityOf : List Byte → Option IdentityRecord
  | [v1, v0, t1, t0, hw, fmt, f1, f0, s3, s2, s1, s0] =>
    some { vendor := v1 ++ v0, type := t1 ++ t0, hardware := hw, format := fmt, firmware := f1 ++ f0
           serial := s3 ++ s2 ++ s1 ++ s0 }
  | _ => none

/-- Bytes 5 to 8 of a slot request's DONE reply (R194). -/
def slotReplyBytes (k : Slot) (r : SlotRecord) : List Byte :=
  [slotByte k, slotStateByte r.state, modeByte r.mode, r.epoch]

/-- The presence byte of a SLOT READ reply (R194). -/
def presenceByte (r : SlotRecord) (claim : Option Nat) : Byte :=
  byteOf (r.identity.isSome.toNat + 2 * r.profileIndex.isSome.toNat + 4 * claim.isSome.toNat
    + 8 * r.parkReason.isSome.toNat + 16 * r.faultReason.isSome.toNat + 32 * r.cardCode.isSome.toNat)

/-- The contents of a SLOT READ reply (R194); an absent field's own bytes are 0 (R195). -/
def slotReadBytes (k : Slot) (r : SlotRecord) (claim : Option Nat) : List Byte :=
  slotReplyBytes k r ++ [flagByte r.cardPresent, byteOf r.faultRun] ++ be16 r.cleanRun
    ++ [presenceByte r claim, optionalByte (fun p => byteOf p.val) r.profileIndex] ++ be16 (claim.getD 0)
    ++ [optionalByte parkReasonByte r.parkReason, optionalByte faultReasonByte r.faultReason, r.cardCode.getD 0]
    ++ (r.identity.map identityBytes).getD (List.replicate 12 0)

def recordBytes (r : ParameterRecord) : List Byte := be16 r.offset ++ be16 r.length ++ [r.parameter]

/-- A profile's fields from the locked flag on, in the order of R57, with the records after their count (R196). -/
def profileBytes (p : Profile) : List Byte :=
  [flagByte p.locked] ++ be16 p.powerDraw ++ be16 p.rampTime ++ be16 p.configTimeout
    ++ [byteOf p.outputLength, byteOf p.inputLength, byteOf p.alignment, safeModeByte p.safeMode]
    ++ be16 (p.patternOffset.getD 0) ++ [byteOf p.records.length] ++ p.records.flatMap recordBytes

/-- Every field of a rule, as RULE WRITE carries them (R53, R54). -/
def ruleBytes (r : Rule) : List Byte :=
  [flagByte r.enabled, ruleFieldByte r.field, operatorByte r.operator] ++ word32 r.mask ++ word32 r.value
    ++ [flagByte r.chain, actionByte r.action, byteOf r.profile.val]

/-- The default action and its profile index, 0 when it is REJECT (R55, R196). -/
def decisionBytes : Decision → List Byte
  | .reject => [0, 0]
  | .assign p => [1, byteOf p.val]

/-- Every rack setting, as RACK SET carries them (R191). -/
def settingsBytes (r : RackSettings) : List Byte :=
  [rateByte r.rate] ++ be16 r.period ++ be16 r.reserve ++ be16 r.budget
    ++ [admissionByte r.admission, byteOf r.missLimit, byteOf r.rampGrace, byteOf r.watchdog]
    ++ be16 r.insertionDebounce ++ [byteOf r.removalDebounce]

/-- The seven link counters in the order of R179 (R196). -/
def counterBytes (c : LinkCounters) : List Byte :=
  be16 c.badCrc ++ be16 c.malformed ++ be16 c.mismatch ++ be16 c.short ++ be16 c.overlap ++ be16 c.long
    ++ be16 c.dropped

/-- A notice record of eight bytes (R198). -/
def noticeBytes (n : Notice) : List Byte :=
  match n.body with
  | .slot k st e reason diag =>
    [1, byteOf n.count, slotByte k, slotStateByte st, e, optionalByte faultReasonByte reason, flagByte diag, 0]
  | .mapOffered g placed removed => [2, byteOf n.count] ++ be16 g ++ slotSetBytes placed ++ slotSetBytes removed
  | .mapTaken g => [3, byteOf n.count] ++ be16 g ++ [0, 0, 0, 0]
  | .rackSafe c => [4, byteOf n.count] ++ half16 c ++ [0, 0, 0, 0]
  | .rackResumed g => [5, byteOf n.count] ++ be16 g ++ [0, 0, 0, 0]

/-- A region as offset and length; an absent one as offset 0 and length 0 (R197). -/
def regionBytes (r : Option Region) : List Byte :=
  match r with
  | some r => be16 r.offset ++ [byteOf r.length]
  | none => [0, 0, 0]

/-- A map entry of a MAP READ reply, with its orphan flag (R197). -/
def mapEntryBytes (e : MapEntry) (orphan : Bool) : List Byte :=
  [slotByte e.slot, e.epoch, byteOf e.profile.val] ++ regionBytes e.output ++ regionBytes e.input ++ [flagByte orphan]

def changeBytes : Change → List Byte
  | .add k => [0, slotByte k]
  | .drop k => [1, slotByte k]

/-! ## Head-link frames -/

/-- Bytes 3 and 4 of a Reply Frame: result and detail (R190). -/
def resultBytes : Result → List Byte
  | .done => [0, 0]
  | .refused r => [1, reasonByte r]
  | .cardRefused code => [2, code]
  | .cardTimeout => [3, 0]
  | .slotLeft => [4, 0]

/-- A Reply Frame on the wire, CRC-32 included (R190). -/
def ReplyFrame.wire (r : ReplyFrame) : List Byte :=
  withCrc32 ([130, r.tag, r.code] ++ resultBytes r.result ++ r.contents)

/-- A slot status byte (R189). -/
def statusByte (x : SlotStatus) : Byte :=
  byteOf (stateClassCode x.stateClass + 8 * x.inputValid.toNat + 16 * x.cardDiag.toNat + 32 * x.noticeQueued.toNat)

/-- A Return Frame on the wire, CRC-32 included (R188). -/
def ReturnFrame.wire (r : ReturnFrame) : List Byte :=
  withCrc32 ([129, frameResultByte r.result] ++ be16 r.generation ++ be16 r.offered ++ half16 r.cycleCount
    ++ [byteOf (rackStateCode r.rackState + 4 * rackConditionCode r.condition), byteOf r.noticeCount]
    ++ be16 r.inputLength ++ r.status.map statusByte ++ r.image)

/-- A Cycle Frame's fields, from the bytes after its kind byte (R187). A field is absent where the frame ends before
it is complete (R149). -/
structure CycleFields where
  generation : Option Nat
  cycleCount : Option Half
  length : Option Nat
  output : List Byte
  deriving DecidableEq, Repr

def cycleFields : List Byte → CycleFields
  | g1 :: g0 :: c1 :: c0 :: n1 :: n0 :: output => ⟨some (nat16 g1 g0), some (c1 ++ c0), some (nat16 n1 n0), output⟩
  | g1 :: g0 :: c1 :: c0 :: _ => ⟨some (nat16 g1 g0), some (c1 ++ c0), none, []⟩
  | g1 :: g0 :: _ => ⟨some (nat16 g1 g0), none, none, []⟩
  | _ => ⟨none, none, none, []⟩

/-! ## Backplane telegrams -/

/-- An Exchange Telegram with its CRC-16 (R200); `outputs` are the addressed slots' output bytes in slot order. -/
def exchangeTelegram (safe : Bool) (addressed : List Slot) (outputs : List Byte) : List Byte :=
  withCrc16 ([if safe then 2 else 1] ++ slotSetBytes addressed ++ be16 outputs.length ++ [0, 0, 0] ++ outputs)

/-- The data bytes that a Response Telegram is judged by (R154, R201, R204): a good response begins within the
window and is whole when it closes, has the right CRC-16, names the addressed slot and carries its input length in the
header and in bytes. Bits 1 to 7 of the flags byte are ignored. -/
def responseOutcome (k : Slot) (inputLength : Nat) (inWindow : Bool) : List Byte → WindowOutcome
  | slot :: flags :: l1 :: l0 :: rest =>
    let data := rest.take (rest.length - 2)
    if inWindow && 2 ≤ rest.length && rest.drop (rest.length - 2) = half16 (crc16 (slot :: flags :: l1 :: l0 :: data))
        && slot = slotByte k && nat16 l1 l0 = inputLength && data.length = inputLength then
      .good data (flags.getLsbD 0)
    else .miss
  | _ => .miss

/-- A Service Telegram with its CRC-16 (R202). -/
def serviceTelegram (k : Slot) (kind : ServiceKind) (last : Bool) (parameter : Byte) (position length : Nat)
    (data : List Byte) : List Byte :=
  withCrc16 ([slotByte k, byteOf (serviceKindCode kind + 128 * last.toNat), parameter] ++ be16 position
    ++ [byteOf length] ++ data)

/-- What a Service Answer says (R91). -/
inductive AnswerResult where
  | accept (data : List Byte)
  | refuse (code : Byte)
  | busy
  deriving DecidableEq, Repr

/-- The outcome of a segment (R93). -/
inductive SegmentOutcome where
  | noAnswer
  | crcError
  | answered (result : AnswerResult)
  deriving DecidableEq, Repr

/-- The outcome of an answered segment (R92, R93, R203, R204), from the bytes that arrived. The answer is its header,
the r data bytes that the header names and a CRC-16; bytes after that span are ignored. An answer cut short, a wrong
CRC-16, another slot, an unknown result, a REFUSE with card code 0 and r greater than 64 are CRC_ERROR. The position and
a card code with ACCEPT or BUSY are not checked. -/
def answerOutcome (k : Slot) : List Byte → SegmentOutcome
  | slot :: result :: code :: p1 :: p0 :: r :: rest =>
    let n := r.toNat
    let data := rest.take n
    if n ≤ Config.segmentData && n + 2 ≤ rest.length
        && (rest.drop n).take 2 = half16 (crc16 (slot :: result :: code :: p1 :: p0 :: r :: data))
        && slot = slotByte k then
      match result.toNat with
      | 1 => .answered (.accept data)
      | 2 => if code = 0 then .crcError else .answered (.refuse code)
      | 3 => .answered .busy
      | _ => .crcError
    else .crcError
  | _ => .crcError

/-- Bit times of a segment answered at the end of the first gap, with d and r data bytes (R92). -/
def segmentBits (d r : Nat) : Nat := 10 * (8 + d) + 24 + 10 * (8 + r) + 24

/-- Bit times of the window of a slot with this input length (R153). -/
def windowBits (inputLength : Nat) : Nat := 24 + 10 * (6 + inputLength)

end Sys2Proof.Machine
end

