-- ==== Sys2Proof/Machine/Store.lean ====
section
/-!
DEFINITION. The Parameter Store (R69): reading and writing bytes over the canonical list of cells.
-/
namespace Sys2Proof.Machine

/-- The byte at an offset of a list of cells; an unlisted offset reads as 0, the reset contents of R69. -/
def cellAt : List Host.Cell → Nat → Byte
  | [], _ => 0
  | (a, b) :: rest, o => if a = o then b else cellAt rest o

/-- A list of cells with one byte written: cells stay in rising order of their offsets, and a 0 is not listed. -/
def putCell (o : Nat) (v : Byte) : List Host.Cell → List Host.Cell
  | [] => if v = 0 then [] else [(o, v)]
  | (a, b) :: rest =>
    if a = o then (if v = 0 then rest else (o, v) :: rest)
    else if o < a then (if v = 0 then (a, b) :: rest else (o, v) :: (a, b) :: rest)
    else (a, b) :: putCell o v rest

/-- The offsets of a list of cells rise strictly and start above a bound. -/
def cellsRise : Option Nat → List Host.Cell → Bool
  | _, [] => true
  | lower, (a, b) :: rest => (lower.all (· < a)) && (b ≠ 0) && cellsRise (some a) rest

/-- The canonical form: offsets strictly rising, inside the store, and no cell holding 0. -/
def Memory.wf (m : Memory) : Bool := cellsRise none m.cells && m.cells.all (·.1 < Config.storeSize)

/-- One byte of the store (R69). -/
def Memory.read (m : Memory) (o : Nat) : Byte := cellAt m.cells o

/-- The bytes of a range (R71). -/
def Memory.readRange (m : Memory) (o : Nat) : Nat → List Byte
  | 0 => []
  | n + 1 => m.read o :: m.readRange (o + 1) n

/-- One byte written. An offset outside the store names no byte, and nothing is written there. -/
def Memory.write (m : Memory) (o : Nat) (v : Byte) : Memory :=
  if o < Config.storeSize then { cells := putCell o v m.cells } else m

/-- Bytes written from an offset on (R70). -/
def Memory.writeRange (m : Memory) (o : Nat) : List Byte → Memory
  | [] => m
  | v :: rest => (m.write o v).writeRange (o + 1) rest

end Sys2Proof.Machine
end

