-- ==== Sys2Proof/Machine/Flags.lean ====
section
/-!
DEFINITION. Conditions and figures computed from the state: classes of slot states, the rack condition, in use,
cycle fit, the class of a frame, the miss limit, places taken, and what the backplane is free for.
-/
namespace Sys2Proof.Machine

/-! ## Classes of slot states (R4) -/

/-- IDENTIFYING through MAP_PENDING (R4: the bring-up states). -/
def SlotState.bringUp : SlotState → Bool
  | .identifying | .powerWait | .rampQueued | .ramping | .configuring | .mapWait | .mapPending => true
  | _ => false

/-- IDENTIFYING through RUNNING: the states a SLOT STOP is taken in (R20). -/
def SlotState.stoppable (x : SlotState) : Bool := x.bringUp || x == .running

/-- The states in which a slot's profile index makes the profile in use (R62). -/
def SlotState.usesProfile : SlotState → Bool
  | .powerWait | .rampQueued | .ramping | .configuring | .mapWait | .mapPending | .running => true
  | _ => false

/-- The states in which a power claim is held (R4). -/
def SlotState.holdsClaim : SlotState → Bool
  | .rampQueued | .ramping | .configuring | .mapWait | .mapPending | .running => true
  | _ => false

/-- The states in which the main supply is on (R4, R73). -/
def SlotState.mainOn : SlotState → Bool
  | .ramping | .configuring | .mapWait | .mapPending | .running => true
  | _ => false

/-- The states in which power-good is monitored (R83). -/
def SlotState.monitored : SlotState → Bool
  | .configuring | .mapWait | .mapPending | .running => true
  | _ => false

/-- PRESENT through QUARANTINED: the states in which "card gone" is taken (R33). -/
def SlotState.takesCardGone : SlotState → Bool
  | .empty | .settling => false
  | _ => true

/-- The states in which the sequencer takes a fault report, by its reason (R10). -/
def FaultReason.takenIn : FaultReason → SlotState → Bool
  | .identTimeout, x => x == .identifying
  | .identFormat, x => x == .identifying
  | .noMatch, x => x == .identifying
  | .profileAbsent, x => x == .identifying
  | .powerFail, x => x == .ramping
  | .powerLost, x => x.monitored
  | .cardRefused, x => x == .configuring
  | .cardTimeout, x => x == .configuring
  | .configTimeout, x => x == .configuring
  | .responseLost, x => x == .running

/-- The state class of the slot status byte (R161). -/
def SlotState.stateClass : SlotState → StateClass
  | .empty | .settling => .vacant
  | .present => .waiting
  | .identifying | .powerWait | .rampQueued | .ramping | .configuring | .mapWait => .starting
  | .mapPending => .pending
  | .running => .running
  | .faulted => .faulted
  | .quarantined => .quarantined

/-- The rack condition (R24). -/
def rackCondition (s : State) : RackCondition :=
  if allSlots.any fun k => (s.slot k).state == .faulted || (s.slot k).state == .quarantined then .fault
  else if (allSlots.any fun k => (s.slot k).state.bringUp) || s.maps.offered.isSome then .changing
  else .steady

/-! ## Maps (chapters 7 and 8) -/

/-- The end of a region: offset plus length. -/
def Region.stop (r : Region) : Nat := r.offset + r.length

/-- Two regions overlap when they share at least one byte (00 Conventions). -/
def Region.overlaps (a b : Region) : Bool :=
  max a.offset b.offset < min a.stop b.stop

def outputRegions (es : List MapEntry) : List Region := es.filterMap (·.output)
def inputRegions (es : List MapEntry) : List Region := es.filterMap (·.input)

/-- The largest region end, 0 with no region (R112). -/
def extent (rs : List Region) : Nat := rs.foldr (fun r m => max r.stop m) 0

def outputExtent (es : List MapEntry) : Nat := extent (outputRegions es)
def inputExtent (es : List MapEntry) : Nat := extent (inputRegions es)

/-- A region's length, an absent one's 0. -/
def regionLength (r : Option Region) : Nat := (r.map (·.length)).getD 0

/-- The exchange length E of a map in bit times (R117). -/
def exchangeLength (es : List MapEntry) : Nat :=
  10 * (10 + (es.map fun e => regionLength e.output).sum)
    + (es.map fun e => 10 * (6 + regionLength e.input) + 24).sum

/-- The bit time of a rate in ns (R118). -/
def Rate.bitTime : Rate → Nat
  | .mbit12 => 80 | .mbit25 => 40 | .mbit50 => 20

/-- The least acyclic reserve of a rate in µs (R121). -/
def Rate.minReserve : Rate → Nat
  | .mbit12 => 120 | .mbit25 => 60 | .mbit50 => 30

/-- The exchange time C of a map in ns (R118). -/
def exchangeTime (rate : Rate) (es : List MapEntry) : Nat := exchangeLength es * rate.bitTime

/-- Cycle fit: C + 1000 A + 1000 M is at most 1000 T (R118). -/
def fits (r : RackSettings) (es : List MapEntry) : Bool :=
  exchangeTime r.rate es + 1000 * r.reserve + 1000 * Config.marginMicros ≤ 1000 * r.period

/-- The free time of a map in µs, rounded down (R120). -/
def freeTime (r : RackSettings) (es : List MapEntry) : Nat :=
  (1000 * r.period - 1000 * r.reserve - 1000 * Config.marginMicros - exchangeTime r.rate es) / 1000

/-- The entry of a slot. -/
def entryOf (es : List MapEntry) (k : Slot) : Option MapEntry := es.find? (·.slot == k)

/-- The slot is RUNNING with the entry's epoch (R3, R141). -/
def servedBy (s : State) (e : MapEntry) : Bool := (s.slot e.slot).state == .running && (s.slot e.slot).epoch == e.epoch

/-- An entry of the Active Map is an orphan when its slot is not RUNNING with the entry's epoch (R141). -/
def orphanInActive (s : State) (e : MapEntry) : Bool := !servedBy s e

/-- An entry of the Offered Map is an orphan when its slot is neither RUNNING nor MAP_PENDING with its epoch (R141). -/
def orphanInOffered (s : State) (e : MapEntry) : Bool :=
  !(((s.slot e.slot).state == .running || (s.slot e.slot).state == .mapPending) && (s.slot e.slot).epoch == e.epoch)

/-- The newest map: the Offered Map when one exists, and the Active Map otherwise (R130). -/
def newestMap (b : MapBuilder) : ImageMap := b.offered.getD b.active

/-- The number after a generation: 65535 is followed by 1 (R127). -/
def nextGeneration (g : Nat) : Nat := if g = 65535 then 1 else g + 1

/-- The class of a Cycle Frame's generation; `none` is NONE (R128). -/
def classify (b : MapBuilder) (g : Nat) : Option FrameClass :=
  if g = 0 then none
  else if g = b.active.generation then some .active
  else if b.offered.any (·.generation = g) then some .offered
  else none

/-- The map that will be in force for a frame of a class (R128). -/
def mapFor (b : MapBuilder) : FrameClass → ImageMap
  | .active => b.active
  | .offered => b.offered.getD b.active

/-- A build is due (R133). -/
def buildDue (b : MapBuilder) : Bool := b.offered.isNone && (!b.changes.isEmpty || b.recheck)

/-! ## Profiles and the store (chapter 4) -/

/-- A profile is in use while a slot in POWER_WAIT through RUNNING, or an entry of either map, names it (R62). -/
def inUse (s : State) (p : ProfileIndex) : Bool :=
  (allSlots.any fun k => (s.slot k).state.usesProfile && (s.slot k).profileIndex == some p)
    || s.maps.active.entries.any (·.profile == p)
    || s.maps.offered.any fun m => m.entries.any (·.profile == p)

/-- The store ranges of a profile: its records' and its pattern's; an invalid profile has none (R58, R59). -/
def storeRanges (p : Profile) : List Region :=
  if p.valid then
    p.records.map (fun r => ⟨r.offset, r.length⟩)
      ++ (if p.safeMode = .pattern then [⟨p.patternOffset.getD 0, p.outputLength⟩] else [])
  else []

/-- The thirty-two profile indexes. -/
def allProfiles : List ProfileIndex :=
  [0, 1, 2, 3, 4, 5, 6, 7, 8, 9, 10, 11, 12, 13, 14, 15, 16, 17, 18, 19, 20, 21, 22, 23, 24, 25, 26, 27, 28, 29, 30, 31]

/-- A range overlaps a store range of a profile (R70). -/
def touches (p : Profile) (r : Region) : Bool := (storeRanges p).any (·.overlaps r)

/-- A range overlaps a store range of a locked profile (R70). -/
def touchesLocked (s : State) (r : Region) : Bool :=
  allProfiles.any fun p => (s.profile p).locked && touches (s.profile p) r

/-- A range overlaps a store range of a profile in use (R70). -/
def touchesInUse (s : State) (r : Region) : Bool :=
  allProfiles.any fun p => inUse s p && touches (s.profile p) r

/-! ## Power (chapter 5) -/

/-- The sum of claims: the total of the claims held by all slots (R73). -/
def sumOfClaims (s : State) : Nat := (allSlots.map fun k => (s.powerClaim k).getD 0).sum

/-- Ramp in progress: yes while the arbiter is not free (R73, R84). -/
def rampInProgress (s : State) : Bool := s.power.arbiter.isSome

/-- The effective miss limit (R84, R156). -/
def missLimit (s : State) : Nat :=
  s.settings.missLimit + (if rampInProgress s then s.settings.rampGrace else 0)

/-! ## The backplane and the head link -/

/-- No exchange and no segment occupies the backplane (R150, R163). -/
def backplaneIdle (s : State) : Bool := s.cycle.exchange.isNone && s.service.segment.isNone

/-- The backplane is free for a segment (R95). -/
def freeForSegment (s : State) : Bool := backplaneIdle s && s.cycle.holder.isNone && !s.cycle.safeDue

/-- The Reply Frame being sent takes a place (R175). -/
def replyOnWire : Transmitter → Nat
  | .sendingReply _ => 1
  | _ => 0

/-- Places taken in the Reply Queue: formed replies, the one being sent, and outstanding pass-throughs (R175). -/
def placesTaken (m : Management) : Nat := m.replyQueue.length + replyOnWire m.transmitter + m.outstanding.length

/-- The subject of a notice (R181). -/
inductive Subject where
  | slot (slot : Slot)
  | mapOffered | mapTaken | rackSafe | rackResumed
  deriving DecidableEq, Repr

/-- The subject of a SLOT notice is its slot, that of every other notice its kind (R181). -/
def subjectOf : NoticeBody → Subject
  | .slot k _ _ _ _ => .slot k
  | .mapOffered _ _ _ => .mapOffered
  | .mapTaken _ => .mapTaken
  | .rackSafe _ => .rackSafe
  | .rackResumed _ => .rackResumed

/-- The Notice Queue holds a SLOT notice for the slot (R161). -/
def noticeQueued (m : Management) (k : Slot) : Bool := m.notices.any fun n => subjectOf n.body == .slot k

end Sys2Proof.Machine
end

