-- ==== Sys2Proof/Machine/Ops.lean ====
section
/-!
DEFINITION. The named operations that several commands share: notices, replies and the transmitter, ramps and claims,
service work, withdrawal, fault entry, the admission gate.
-/
namespace Sys2Proof.Machine

/-! ## Notices (R7, R181) -/

/-- Posting a notice: a queued notice of the same subject is updated in place, its count raised and holding at 255;
otherwise the notice joins the tail with count 1 (R181). -/
def queueNotice (b : NoticeBody) : List Notice → List Notice
  | [] => [⟨1, b⟩]
  | n :: rest =>
    if subjectOf n.body = subjectOf b then ⟨min 255 (n.count + 1), b⟩ :: rest else n :: queueNotice b rest

def postNotice (b : NoticeBody) (s : State) : State :=
  s.modMgmt fun m => { m with notices := queueNotice b m.notices }

/-- The SLOT notice of a slot as it stands: state, epoch, fault reason when FAULTED or QUARANTINED, card diag (R7). -/
def slotNotice (s : State) (k : Slot) : NoticeBody :=
  let r := s.slot k
  .slot k r.state r.epoch (if r.state = .faulted ∨ r.state = .quarantined then r.faultReason else none) (s.cyc k).cardDiag

def postSlotNotice (k : Slot) (s : State) : State := postNotice (slotNotice s k) s

/-- A slot enters a state, with its SLOT notice (R7). -/
def enterState (k : Slot) (x : SlotState) (s : State) : State :=
  postSlotNotice k (s.modSlot k fun r => { r with state := x })

/-! ## Link counters (R179) -/

/-- A counter at 65535 stays there when incremented (R179). -/
def countUp (n : Nat) : Nat := min 65535 (n + 1)

def modCounters (f : LinkCounters → LinkCounters) (s : State) : State :=
  s.modMgmt fun m => { m with counters := f m.counters }

/-! ## The upstream transmitter (R171, R172, R175) -/

/-- The transmitter's choice when it can start a frame: the oldest of the Return line, else the oldest of the Reply
Queue, else it is idle (R171). -/
def startUpstream (m : Management) : Management :=
  match m.returnLine, m.replyQueue with
  | r :: rest, _ => { m with transmitter := .sendingReturn r.wire, returnLine := rest }
  | [], r :: rest => { m with transmitter := .sendingReply r.wire, replyQueue := rest }
  | [], [] => { m with transmitter := .idle }

/-- A frame that becomes waiting while the transmitter is idle is sent at once (R171). -/
def kickUpstream (m : Management) : Management := if m.transmitter = .idle then startUpstream m else m

/-- A formed Reply Frame joins the tail of the Reply Queue (R175). -/
def postReply (r : ReplyFrame) (s : State) : State :=
  s.modMgmt fun m => kickUpstream { m with replyQueue := m.replyQueue ++ [r] }

/-- The Return line with a new frame: when four wait, the oldest is discarded (R172). -/
def joinReturnLine (f : ReturnFrame) (line : List ReturnFrame) : List ReturnFrame :=
  (if Config.returnPlaces ≤ line.length then line.tail else line) ++ [f]

/-- A formed Return Frame joins the Return line (R172). -/
def postReturn (f : ReturnFrame) (s : State) : State :=
  s.modMgmt fun m => kickUpstream { m with returnLine := joinReturnLine f m.returnLine }

/-! ## Requests (R173 to R175) -/

/-- The answer of the block that serves a request: a result and the bytes of its contents. -/
structure Answer where
  result : Result
  contents : List Byte
  deriving DecidableEq, Repr

def done (contents : List Byte) : Answer := ⟨.done, contents⟩

/-- A refusal carries its reason alone (R174). -/
def refuse (r : Reason) : Answer := ⟨.refused r, []⟩

/-- Taking a request: it is dropped and counted when all eight places are taken; otherwise the owning block serves it
and its reply is formed at once, unless the block answers none, which leaves a pass-through outstanding (R173, R175). -/
def takeRequest (tag code : Byte) (serve : State → State × Option Answer) (s : State) : State :=
  if Config.replyPlaces ≤ placesTaken s.mgmt then modCounters (fun c => { c with dropped := countUp c.dropped }) s
  else
    match serve s with
    | (t, some a) => postReply ⟨tag, code, a.result, a.contents⟩ t
    | (t, none) => t

/-- A request refused for its arguments: nothing changes (R173, R193). -/
def badArgument (s : State) : State × Option Answer := (s, some (refuse .badArgument))

/-- A request refused for another reason: nothing changes (R174). -/
def refusal (r : Reason) (s : State) : State × Option Answer := (s, some (refuse r))

/-! ## Ramps and claims (chapter 5) -/

/-- The ramp arbiter starts the oldest slot of the Ramp Queue when it is free (R80). -/
def startRamp (s : State) : State :=
  match s.power.arbiter, s.power.rampQueue with
  | none, k :: rest =>
    enterState k .ramping
      ((s.modPower fun p => { p with rampQueue := rest, arbiter := some k }).modPow k fun r =>
        { r with mainSupply := true, rampTimer := some (s.profileOf k).rampTime })
  | _, _ => s

/-- The power draw of a slot's profile fits the budget beside the claims held (R75, R77). -/
def claimFits (s : State) (k : Slot) : Bool := sumOfClaims s + (s.profileOf k).powerDraw ≤ s.settings.budget

/-- A claim is granted: the slot leaves the Power Wait List if it stands there, joins the tail of the Ramp Queue and
enters RAMP_QUEUED (R75, R77). -/
def grantClaim (k : Slot) (s : State) : State :=
  enterState k .rampQueued
    ((((s.modPow k fun r => { r with claim := some ⟨(s.profileOf k).powerDraw, (s.slot k).epoch⟩ }).modPower fun p =>
      { p with waitList := p.waitList.filter (· != k), rampQueue := p.rampQueue ++ [k] }).modSlot k fun r =>
        { r with parkReason := none }))

/-- A claim request is parked: the slot joins the tail of the Power Wait List and enters POWER_WAIT (R75). -/
def parkClaim (k : Slot) (s : State) : State :=
  enterState k .powerWait
    ((s.modPower fun p => { p with waitList := p.waitList ++ [k] }).modSlot k fun r =>
      { r with parkReason := some .power })

/-- The decision on a claim request (R75). -/
def requestClaim (k : Slot) (s : State) : State :=
  if claimFits s k then startRamp (grantClaim k s) else parkClaim k s

/-- One entry of a re-evaluation: granted when it fits, else it keeps its place (R77). -/
def retryClaim (k : Slot) (s : State) : State := if claimFits s k then grantClaim k s else s

/-- The Power Wait List is gone through once, oldest first; then a free arbiter starts the oldest slot (R77). -/
def reevaluateClaims (s : State) : State := startRamp (eachSlot s.power.waitList retryClaim s)

/-- What the Power Controller does at a slot's withdrawal and at "card gone" (R82, R85): the slot leaves the lists, its
ramp or monitoring ends, its supply is off and its claim gone; a release re-evaluates the Power Wait List. -/
def withdrawPower (k : Slot) (s : State) : State :=
  let t := (s.modPower fun p =>
      { p with waitList := p.waitList.filter (· != k), rampQueue := p.rampQueue.filter (· != k)
               arbiter := if p.arbiter = some k then none else p.arbiter }).modPow k fun r =>
      PowerRecord.reset r.powerGood
  if (s.pow k).claim.isSome then reevaluateClaims t else t

/-! ## Service work (chapter 6) -/

def queueTransaction (x : Transaction) (s : State) : State := s.modService fun c => { c with queue := c.queue ++ [x] }

/-- An IDENT READ (R41, R88). -/
def identRead (k : Slot) (e : Epoch) : Transaction :=
  { kind := .identRead, origin := .sequencer, slot := k, epoch := e, parameter := none, totalLength := 0, position := 0
    repeatUsed := false, source := none, gathered := [], replyTag := none, recordNumber := none }

/-- A download's PARAM COMMIT (R88, R100). -/
def paramCommit (k : Slot) (e : Epoch) : Transaction := { identRead k e with kind := .paramCommit }

/-- A download's PARAM WRITE of its record `n` (R88, R100). -/
def downloadWrite (k : Slot) (e : Epoch) (n : Nat) (r : ParameterRecord) : Transaction :=
  { identRead k e with
    kind := .paramWrite, parameter := some r.parameter, totalLength := r.length
    source := some (.storeRange r.offset r.length), recordNumber := some n }

/-- The step and the transaction that a download goes on with at record `n`, counted from 1: that record's PARAM WRITE
if the profile has it, else the PARAM COMMIT (R100, R101). -/
def downloadNext (k : Slot) (e : Epoch) (p : Profile) (n : Nat) : DownloadStep × Transaction :=
  match p.records[n - 1]? with
  | some r => (.record n, downloadWrite k e n r)
  | none => (.commit, paramCommit k e)

/-- A download is created when its slot enters CONFIGURING, and its first transaction joins the queue (R100). -/
def createDownload (k : Slot) (s : State) : State :=
  let i := (s.slot k).profileIndex.getD 0
  let e := (s.slot k).epoch
  let next := downloadNext k e (s.profile i) 1
  queueTransaction next.2
    (s.setDownload k (some ⟨e, i, next.1, (s.profile i).configTimeout⟩))

/-- The request code of a pass-through (R191). -/
def PassThrough.code (p : PassThrough) : Byte := if p.write then 113 else 112

/-- A deferred reply takes the place that its pass-through has held, which is then no longer outstanding (R108, R175). -/
def settlePassThrough (p : PassThrough) (a : Answer) (s : State) : State :=
  postReply ⟨p.tag, p.code, a.result, a.contents⟩
    (s.modMgmt fun m => { m with outstanding := m.outstanding.erase p })

/-- Every outstanding pass-through of a slot is answered SLOT_LEFT, in the order of acceptance (R109, log 12). -/
def dropPassThroughs (k : Slot) (s : State) : State :=
  (s.mgmt.outstanding.filter (·.slot == k)).foldl
    (fun s p => settlePassThrough p ⟨.slotLeft, [slotByte k]⟩ s) s

/-- What the Service Channel Controller does at a slot's withdrawal and at "card gone" (R97, R105, R109): the slot's
transactions are gone, its download and timeout removed, its pass-throughs answered SLOT_LEFT. A segment on the
backplane stays there until it ends, its transaction no longer in flight. -/
def withdrawService (k : Slot) (s : State) : State :=
  let mine := s.service.inFlight.any (·.slot == k)
  dropPassThroughs k
    ((s.modService fun c =>
      { c with queue := c.queue.filter (·.slot != k)
               inFlight := if mine then none else c.inFlight
               segment := if mine then c.segment.map (fun g => { g with live := false }) else c.segment }).setDownload k
      none)

/-! ## Map work at a withdrawal (R130) -/

/-- Step 3 of R130: a DROP joins when the newest map holds an entry for the slot and no DROP is queued. -/
def wantsDrop (b : MapBuilder) (k : Slot) : Bool :=
  (newestMap b).entries.any (·.slot == k) && !b.changes.contains (.drop k)

/-- What the Map Builder does at a slot's withdrawal and at "card gone" (R130). -/
def withdrawMaps (k : Slot) (s : State) : State :=
  s.modMaps fun b =>
    { b with waitList := b.waitList.filter (· != k)
             changes := b.changes.filter (· != .add k) ++ (if wantsDrop b k then [.drop k] else []) }

/-! ## Withdrawal and fault entry (R8, R9) -/

/-- Withdrawal of a slot: every block gives back what it holds for it (R8), the attempt record included (R40). The
park reason goes with the slot's place in a wait list. -/
def withdraw (k : Slot) (s : State) : State :=
  withdrawMaps k (withdrawService k ((withdrawPower k (s.setAttempt k none)).modSlot k fun r =>
    { r with parkReason := none }))

/-- Fault entry (R9): withdrawal, the fault-run count, then FAULTED or QUARANTINED with the reason recorded. -/
def faultEntry (k : Slot) (reason : FaultReason) (code : Option Byte) (s : State) : State :=
  postSlotNotice k ((withdraw k s).modSlot k fun r =>
    { r with state := if Config.quarantineCount ≤ r.faultRun + 1 then .quarantined else .faulted
             faultRun := r.faultRun + 1, faultReason := some reason
             cardCode := if reason = .cardRefused then code else none, cleanRun := 0 })

/-- A report is current when it bears the slot's current epoch (R5). -/
def current (s : State) (k : Slot) (e : Epoch) : Bool := (s.slot k).epoch == e

/-- A fault report: taken in the states of R10 with the current epoch, and discarded otherwise (R5). -/
def reportFault (k : Slot) (e : Epoch) (reason : FaultReason) (code : Option Byte) (s : State) : State :=
  if reason.takenIn (s.slot k).state && current s k e then faultEntry k reason code s else s

/-! ## Identification and the admission gate (R6, R15, R40) -/

/-- A slot enters IDENTIFYING: its notice, its attempt record and its first IDENT READ (R6, R40). -/
def enterIdentifying (k : Slot) (s : State) : State :=
  let t := enterState k .identifying s
  let e := (s.slot k).epoch
  queueTransaction (identRead k e) (t.setAttempt k (some ⟨e, 1⟩))

/-- The admission gate: a slot in PRESENT with mode AUTO goes on while admission is OPEN (R15). -/
def admissionGate (k : Slot) (s : State) : State :=
  if (s.slot k).state = .present ∧ (s.slot k).mode = .auto ∧ s.settings.admission = .opened then enterIdentifying k s
  else s

end Sys2Proof.Machine
end

