-- ==== Sys2Proof/Machine/Build.lean ====
section
/-!
DEFINITION. Image placement and cycle fit (chapter 7) and the build (chapter 8): BUILD.
-/
namespace Sys2Proof.Machine

/-! ## Placement (R114) -/

/-- An offset holds a region of a length at an alignment, clear of the regions already placed (R114). -/
def offsetHolds (rs : List Region) (length align o : Nat) : Bool :=
  o % align == 0 && o + length ≤ Config.imageSize && rs.all fun r => !(Region.overlaps ⟨o, length⟩ r)

/-- The lowest offset from `o` on that holds the region, among the next `fuel` offsets. -/
def firstFit (rs : List Region) (length align : Nat) : Nat → Nat → Option Nat
  | 0, _ => none
  | fuel + 1, o => if offsetHolds rs length align o then some o else firstFit rs length align fuel (o + 1)

/-- Placing a region in one direction: a length of 0 needs no placement, and the inner `none` is then the absent region;
the outer `none` is a failed placement (R111, R114). -/
def placeRegion (rs : List Region) (length align : Nat) : Option (Option Region) :=
  if length = 0 then some none
  else (firstFit rs length align Config.imageSize 0).map fun o => some ⟨o, length⟩

/-- A map's entries with the entry of a slot put in its place in slot order. Any older entry of the slot goes (log 25). -/
def insertEntry (e : MapEntry) (es : List MapEntry) : List MapEntry :=
  es.filter (·.slot < e.slot) ++ [e] ++ es.filter (e.slot < ·.slot)

/-- What a try decides: the new entry, or the reason it parks for (R115). -/
inductive Placement where
  | placed (entry : MapEntry)
  | parked (reason : ParkReason)
  deriving DecidableEq, Repr

/-- The four steps of R115 for a slot, against the map being built, with the profile and the settings as they stand. -/
def tryPlace (s : State) (es : List MapEntry) (k : Slot) : Placement :=
  let p := s.profileOf k
  let others := es.filter (·.slot != k)
  match placeRegion (outputRegions others) p.outputLength p.alignment with
  | none => .parked .image
  | some output =>
    match placeRegion (inputRegions others) p.inputLength p.alignment with
    | none => .parked .image
    | some input =>
      let e : MapEntry := ⟨k, (s.slot k).epoch, (s.slot k).profileIndex.getD 0, output, input⟩
      if fits s.settings (insertEntry e es) then .placed e else .parked .cycle

/-! ## The three steps of a build (R134 to R136) -/

/-- A build under way: the state, the map being built, and the slots placed so far. -/
structure BuildState where
  state : State
  entries : List MapEntry
  placed : List Slot

/-- A placement is reported: the sequencer takes it in MAP_WAIT, and the slot enters MAP_PENDING (R135, R136). -/
def reportPlaced (k : Slot) (s : State) : State :=
  if (s.slot k).state = .mapWait then enterState k .mapPending (s.modSlot k fun r => { r with parkReason := none }) else s

/-- A parking is reported: the sequencer takes it in MAP_WAIT and records the reason (R116, R136). -/
def reportParked (k : Slot) (reason : ParkReason) (s : State) : State :=
  if (s.slot k).state = .mapWait then s.modSlot k fun r => { r with parkReason := some reason } else s

/-- Step 2 for one slot of the Map Wait List (R135): placed, it leaves the list; otherwise it keeps its place. -/
def retryParked (b : BuildState) (k : Slot) : BuildState :=
  match tryPlace b.state b.entries k with
  | .placed e =>
    { state := reportPlaced k (b.state.modMaps fun m => { m with waitList := m.waitList.filter (· != k) })
      entries := insertEntry e b.entries, placed := b.placed ++ [k] }
  | .parked reason => { b with state := reportParked k reason b.state }

/-- Step 3 for one ADD (R136): placed, or appended to the Map Wait List. -/
def applyAdd (b : BuildState) (k : Slot) : BuildState :=
  match tryPlace b.state b.entries k with
  | .placed e =>
    { state := reportPlaced k b.state, entries := insertEntry e b.entries, placed := b.placed ++ [k] }
  | .parked reason =>
    { b with state := reportParked k reason (b.state.modMaps fun m => { m with waitList := m.waitList ++ [k] }) }

/-- The slots of the ADDs of a Change List, in list order. -/
def addedSlots (cs : List Change) : List Slot :=
  cs.filterMap fun c => match c with
    | .add k => some k
    | .drop _ => none

/-- The entries that the DROPs of the Change List leave of the Active Map (R134). -/
def keptEntries (m : MapBuilder) : List MapEntry := m.active.entries.filter fun e => !m.changes.contains (.drop e.slot)

/-- The slots whose entries the DROPs remove, in slot order (R134, R137). -/
def removedSlots (m : MapBuilder) : List Slot :=
  allSlots.filter fun k => m.changes.contains (.drop k) && m.active.entries.any (·.slot == k)

/-- The outcome of a build (R137): the mark is cleared, and a map that differs becomes the Offered Map, with its
notice after the SLOT notices of the slots placed. -/
def offerMap (removed : List Slot) (b : BuildState) : State :=
  let s := b.state.modMaps fun m => { m with recheck := false }
  if removed.isEmpty && b.placed.isEmpty then s
  else
    let g := nextGeneration s.maps.active.generation
    postNotice (.mapOffered g (allSlots.filter (· ∈ b.placed)) removed)
      (s.modMaps fun m => { m with offered := some ⟨g, b.entries⟩ })

/-- A build, carried out whole (R133 to R137). -/
def runBuild (s : State) : State :=
  let start : BuildState :=
    { state := s.modMaps fun m => { m with changes := [] }, entries := keptEntries s.maps, placed := [] }
  let retried := s.maps.waitList.foldl retryParked start
  offerMap (removedSlots s.maps) ((addedSlots s.maps.changes).foldl applyAdd retried)

/-- BUILD (R133): a build that is no longer due is not taken. -/
def execBuild (s : State) : Host.Outcome State Fault Refusal := .next (if buildDue s.maps then runBuild s else s)

end Sys2Proof.Machine
end

