-- ==== Sys2Proof/Machine/Exchange.lean ====
section
/-!
DEFINITION. Cyclic Exchange (chapter 9): CYCLE_FRAME, FRAME_SERVICE_START, RESPONSE_WINDOW_CLOSE, EXCHANGE_END,
CYCLE_WATCHDOG_EXPIRY, SAFE_EXCHANGE_TIMER_EXPIRY, SAFE_EXCHANGE_START; and the swap of chapter 8.
-/
namespace Sys2Proof.Machine

/-! ## The swap (R139, R158) -/

/-- A slot enters RUNNING at a swap: clean-run count 0, buffers of zeros, no valid input, card diag clear (R11, R139,
R158). The flag is clear in the notice of the move (log 17). -/
def enterRunning (e : MapEntry) (s : State) : State :=
  enterState e.slot .running
    ((s.modCyc e.slot fun _ =>
      { missCount := 0, lastOutput := List.replicate (regionLength e.output) 0
        lastInput := List.replicate (regionLength e.input) 0, inputValid := false, cardDiag := false }).modSlot e.slot
      fun r => { r with cleanRun := 0 })

/-- The swap is reported for a slot: taken in MAP_PENDING when the entry bears its current epoch (R139). -/
def reportSwapped (k : Slot) (s : State) : State :=
  match entryOf s.maps.active.entries k with
  | some e => if (s.slot k).state = .mapPending ∧ current s k e.epoch then enterRunning e s else s
  | none => s

/-- The swap (R139). A build that it makes due is a step of its own. -/
def swapMaps (s : State) : State :=
  match s.maps.offered with
  | some m =>
    postNotice (.mapTaken m.generation)
      (eachSlot allSlots reportSwapped (s.modMaps fun b => { b with active := m, offered := none }))
  | none => s

/-! ## Exchanges (R152, R153, R164) -/

/-- The entries of the Active Map whose slots an exchange addresses, in slot order (R152, R164). -/
def addressedEntries (s : State) : List MapEntry :=
  (allSlots.filterMap (entryOf s.maps.active.entries)).filter (servedBy s)

def addressedOf (e : MapEntry) : Addressed := ⟨e.slot, e.epoch, regionLength e.input⟩

/-- The exchange that starts on the backplane with its telegram (R153). -/
def startExchange (kind : ExchangeKind) (es : List MapEntry) (outputs : List Byte) (s : State) : State :=
  s.modCycle fun c =>
    { c with exchange := some
              { kind := kind, addressed := es.map addressedOf, outcomes := [], bitTime := s.settings.rate.bitTime
                telegram := exchangeTelegram (kind = .safe) (es.map (·.slot)) outputs, cut := false } }

/-- The bytes of an image at a region. -/
def imageAt (image : List Byte) (r : Region) : List Byte := (image.drop r.offset).take r.length

/-- An addressed slot with an output region takes the frame's bytes into its last-output buffer (R152). -/
def copyOutput (image : List Byte) (e : MapEntry) (s : State) : State :=
  match e.output with
  | some r => s.modCyc e.slot fun c => { c with lastOutput := imageAt image r }
  | none => s

/-- The output bytes of an addressed slot in a normal exchange: its last-output buffer, none with no output region
(R153). -/
def normalOutput (s : State) (e : MapEntry) : List Byte :=
  match e.output with
  | some _ => (s.cyc e.slot).lastOutput
  | none => []

/-- The service of an accepted Cycle Frame (R152): the swap, the addressed set, the outputs, the exchange. -/
def serveFrame (f : HeldFrame) (s : State) : State :=
  let t := match f.frameClass with
    | .offered => swapMaps s
    | .active => s
  let es := addressedEntries t
  let u := es.foldl (fun s e => copyOutput f.output e s) t
  startExchange (.normal f.cycleCount) es (es.flatMap (normalOutput u)) u

/-- The safe output of an addressed slot, by the safe-output mode of its entry's profile (R59, R164). -/
def safeOutput (s : State) (e : MapEntry) : List Byte :=
  let p := s.profile e.profile
  match e.output with
  | none => []
  | some r =>
    match p.safeMode with
    | .zero => List.replicate r.length 0
    | .hold => (s.cyc e.slot).lastOutput
    | .pattern => s.library.store.readRange (p.patternOffset.getD 0) r.length

/-! ## Return Frames (R149, R159 to R161) -/

/-- The header-only Return Frame of a refused frame (R149). -/
def refusalFrame (s : State) (result : FrameResult) (count : Half) : ReturnFrame :=
  { result := result, generation := s.maps.active.generation, offered := (s.maps.offered.map (·.generation)).getD 0
    cycleCount := count, rackState := s.cycle.rackState, condition := rackCondition s
    noticeCount := s.mgmt.notices.length, inputLength := 0, status := [], image := [] }

/-- The slot gave a good response in this exchange and is still RUNNING with the exchange's epoch (R161). -/
def answeredIn (s : State) (x : Exchange) (k : Slot) : Bool :=
  (x.addressed.zip x.outcomes).any fun (a, o) =>
    a.slot == k && o != .miss && (s.slot k).state == .running && (s.slot k).epoch == a.epoch

/-- A slot's status (R161). -/
def slotStatus (s : State) (x : Exchange) (k : Slot) : SlotStatus :=
  { stateClass := (s.slot k).state.stateClass, inputValid := answeredIn s x k, cardDiag := (s.cyc k).cardDiag
    noticeQueued := noticeQueued s.mgmt k }

/-- Bytes put over an image from an offset on. -/
def overlay (image : List Byte) (o : Nat) (bytes : List Byte) : List Byte :=
  image.take o ++ bytes ++ image.drop (o + bytes.length)

/-- The bytes of an entry's input region: the last-input buffer of a slot RUNNING with the entry's epoch, else zeros
(R160). -/
def regionInput (s : State) (e : MapEntry) (r : Region) : List Byte :=
  if servedBy s e then (s.cyc e.slot).lastInput else List.replicate r.length 0

/-- The input image, from offset 0 up to the input extent; bytes in no region are zeros (R160). -/
def inputImage (s : State) : List Byte :=
  s.maps.active.entries.foldl
    (fun image e => match e.input with
      | some r => overlay image r.offset (regionInput s e r)
      | none => image)
    (List.replicate (inputExtent s.maps.active.entries) 0)

/-- The Return Frame after a normal exchange (R159). -/
def returnFrame (s : State) (x : Exchange) (count : Half) : ReturnFrame :=
  { refusalFrame s .accepted count with
    inputLength := inputExtent s.maps.active.entries, status := allSlots.map (slotStatus s x), image := inputImage s }

/-! ## Receiving a Cycle Frame (R148 to R151, R165) -/

/-- What the checks of R148 decide: a refusal, or acceptance with the class and whether the frame is long. -/
inductive FrameCheck where
  | refused (result : FrameResult)
  | accepted (frame : HeldFrame) (generation : Nat) (long : Bool)
  deriving DecidableEq, Repr

/-- The four checks in their order (R148). -/
def checkFrame (s : State) (f : CycleFields) : FrameCheck :=
  match f.generation, f.cycleCount, f.length with
  | some g, some count, some n =>
    if Config.imageSize < n ∨ f.output.length ≠ n then .refused .malformed
    else
      match classify s.maps g with
      | none => .refused .mismatch
      | some cls =>
        let least := outputExtent (mapFor s.maps cls).entries
        if n < least then .refused .short
        else if s.cycle.holder.isSome then .refused .overlap
        else .accepted ⟨cls, count, f.output⟩ g (least < n)
  | _, _, _ => .refused .malformed

/-- The counter of a refusal's reason (R149, R179). -/
def countRefusal (result : FrameResult) (c : LinkCounters) : LinkCounters :=
  match result with
  | .accepted => c
  | .malformed => { c with malformed := countUp c.malformed }
  | .mismatch => { c with mismatch := countUp c.mismatch }
  | .short => { c with short := countUp c.short }
  | .overlap => { c with overlap := countUp c.overlap }

/-- The cycle watchdog's duration W × T in µs, with W and T in force (R162). -/
def watchdogTime (r : RackSettings) : Nat := r.watchdog * r.period

/-- The Cycle Engine at an acceptance: the cycle count, the watchdog afresh and RUN (R150); from SAFE, no safe exchange
any more (R165). -/
def acceptEngine (r : RackSettings) (count : Half) (c : CycleEngine) : CycleEngine :=
  let leavesSafe := c.rackState == .safe
  { c with lastCount := some count, watchdog := some (watchdogTime r), rackState := .run
           safeTimer := if leavesSafe then none else c.safeTimer, safeDue := c.safeDue && !leavesSafe }

/-- A frame is accepted (R150): RACK RESUMED from SAFE (R165), a long frame counted (R148), then service on a free
backplane or the holder. -/
def acceptFrame (f : HeldFrame) (g : Nat) (long : Bool) (s : State) : State :=
  let t := s.modCycle (acceptEngine s.settings f.cycleCount)
  let u := if s.cycle.rackState = .safe then postNotice (.rackResumed g) t else t
  let v := if long then modCounters (fun c => { c with long := countUp c.long }) u else u
  if backplaneIdle v && v.cycle.holder.isNone then serveFrame f v
  else v.modCycle fun c => { c with holder := some f }

/-- CYCLE_FRAME (R148): checked, and refused or accepted. -/
def execCycleFrame (body : List Byte) (s : State) : Host.Outcome State Fault Refusal :=
  match checkFrame s (cycleFields body) with
  | .refused r =>
    .next (modCounters (countRefusal r) (postReturn (refusalFrame s r ((cycleFields body).cycleCount.getD 0)) s))
  | .accepted f g long => .next (acceptFrame f g long s)

/-- FRAME_SERVICE_START (R151, R152): the held frame leaves the holder once the backplane is free, a safe exchange due
beside it or not (log 33). -/
def execFrameServiceStart (s : State) : Host.Outcome State Fault Refusal :=
  match s.cycle.holder with
  | some f =>
    if backplaneIdle s then .next (serveFrame f (s.modCycle fun c => { c with holder := none })) else .next s
  | none => .next s

/-! ## Windows and the end of an exchange (R154 to R157) -/

/-- RESPONSE_WINDOW_CLOSE (R154): the outcome of the addressed slot whose window is open is recorded. -/
def execResponseWindowClose (inWindow : Bool) (response : List Byte) (s : State) :
    Host.Outcome State Fault Refusal :=
  match s.cycle.exchange with
  | some x =>
    match x.addressed[x.outcomes.length]?, x.cut with
    | some a, false =>
      let o := responseOutcome a.slot a.inputLength inWindow response
      .next (s.modCycle fun c => { c with exchange := some { x with outcomes := x.outcomes ++ [o] } })
    | some _, true => .next s
    | none, _ => .next s
  | none => .next s

/-- The sequencer's count of an answered exchange: 4096 clean exchanges clear the fault-run count (R11). -/
def countAnswered (r : SlotRecord) : SlotRecord :=
  if r.cleanRun + 1 = Config.cleanRunGoal then { r with faultRun := 0, cleanRun := 0 }
  else { r with cleanRun := r.cleanRun + 1 }

/-- A good response of a slot still RUNNING with the exchange's epoch (R155, R157). -/
def takeResponse (k : Slot) (data : List Byte) (diag : Bool) (s : State) : State :=
  let t := s.modCyc k fun c =>
    { c with missCount := 0, lastInput := data, inputValid := true, cardDiag := diag }
  let u := if diag && !(s.cyc k).cardDiag then postSlotNotice k t else t
  u.modSlot k countAnswered

/-- A miss of a slot still RUNNING with the exchange's epoch (R156); the limit is the one that stood when the exchange
end was taken. -/
def takeMiss (limit : Nat) (k : Slot) (e : Epoch) (s : State) : State :=
  let t := (s.modCyc k fun c => { c with missCount := c.missCount + 1, inputValid := false }).modSlot k fun r =>
    { r with cleanRun := 0 }
  if limit ≤ (t.cyc k).missCount then reportFault k e .responseLost none t else t

/-- The accounting of one addressed slot: skipped when it is no longer RUNNING with the exchange's epoch (R155). -/
def accountSlot (limit : Nat) (s : State) (p : Addressed × WindowOutcome) : State :=
  if (s.slot p.1.slot).state = .running ∧ current s p.1.slot p.1.epoch then
    match p.2 with
    | .good data diag => takeResponse p.1.slot data diag s
    | .miss => takeMiss limit p.1.slot p.1.epoch s
  else s

/-- An exchange ends, its windows all closed: the slots are accounted for in slot order, and after a normal exchange
the Return Frame is formed (R155, R159). -/
def finishExchange (x : Exchange) (s : State) : State :=
  let t := (x.addressed.zip x.outcomes).foldl (accountSlot (missLimit s))
    (s.modCycle fun c => { c with exchange := none })
  match x.kind with
  | .normal count => postReturn (returnFrame t x count) t
  | .safe => t

/-- EXCHANGE_END (R155). An exchange that a restart has cut off ends with no accounting and no Return Frame (R168). -/
def execExchangeEnd (s : State) : Host.Outcome State Fault Refusal :=
  match s.cycle.exchange with
  | some x =>
    if x.cut then .next (s.modCycle fun c => { c with exchange := none })
    else if x.addressed.length ≤ x.outcomes.length then .next (finishExchange x s)
    else .next s
  | none => .next s

/-! ## Watchdog and safe exchanges (R162 to R164) -/

/-- CYCLE_WATCHDOG_EXPIRY (R163). A safe exchange becomes due although a frame is held: R163 makes it due, and R151's "no
safe exchange is due" rests on the rack being in RUN (DESIGN CHOICE, log 33). -/
def execCycleWatchdogExpiry (s : State) : Host.Outcome State Fault Refusal :=
  if s.cycle.watchdog.isSome then
    .next (postNotice (.rackSafe (s.cycle.lastCount.getD 0)) (s.modCycle fun c =>
      { c with rackState := .safe, watchdog := none, safeDue := true, safeTimer := some s.settings.period }))
  else .next s

/-- SAFE_EXCHANGE_TIMER_EXPIRY (R163). -/
def execSafeExchangeTimerExpiry (s : State) : Host.Outcome State Fault Refusal :=
  if s.cycle.safeTimer.isSome then
    .next (s.modCycle fun c => { c with safeDue := true, safeTimer := some s.settings.period })
  else .next s

/-- SAFE_EXCHANGE_START (R163, R164): a due safe exchange starts when no exchange and no segment runs. With a frame held
beside it, whichever start command comes first takes the backplane (DESIGN CHOICE, log 33). -/
def execSafeExchangeStart (s : State) : Host.Outcome State Fault Refusal :=
  if s.cycle.safeDue && backplaneIdle s then
    let es := addressedEntries s
    .next (startExchange .safe es (es.flatMap (safeOutput s)) (s.modCycle fun c => { c with safeDue := false }))
  else .next s

end Sys2Proof.Machine
end

