-- ==== Sys2Proof/Machine/Link.lean ====
section
/-!
DEFINITION. The ends of the head link (chapter 10): BAD_CRC_FRAME and UPSTREAM_FRAME_END.
-/
namespace Sys2Proof.Machine

/-- BAD_CRC_FRAME (R169): a discarded frame is counted and reaches no block. -/
def execBadCrcFrame (s : State) : Host.Outcome State Fault Refusal :=
  .next (modCounters (fun c => { c with badCrc := countUp c.badCrc }) s)

/-- UPSTREAM_FRAME_END (R171, R175): the frame being sent has been sent, a reply's place is freed, and the next starts. -/
def execUpstreamFrameEnd (s : State) : Host.Outcome State Fault Refusal :=
  if s.mgmt.transmitter = .idle then .next s else .next (s.modMgmt startUpstream)

end Sys2Proof.Machine
end

