-- ==== Sys2Proof/Machine/Power.lean ====
section
/-!
DEFINITION. Main Power Control (chapter 5): RAMP_END, POWER_GOOD_DEASSERTED, POWER_GOOD_ASSERTED,
POWER_GOOD_FILTER_EXPIRY; and CONFIGURATION_TIMEOUT of chapter 6.
-/
namespace Sys2Proof.Machine

/-- The sequencer takes the report of a ramp's end in RAMPING, when the claim's epoch, which the report carries, is the
slot's current one (R5, R73, R81). -/
def rampEndTaken (k : Slot) (s : State) : Bool :=
  (s.slot k).state == .ramping && (s.pow k).claim.any fun c => current s k c.epoch

/-- A ramp whose end the sequencer discards: the slot record stays as it is and monitoring does not begin (R5, R83); the
ramp is over and the arbiter goes on (R81; log 34). -/
def rampDiscarded (k : Slot) (s : State) : State :=
  startRamp ((s.modPow k fun r => { r with rampTimer := none }).modPower fun p =>
    { p with arbiter := if p.arbiter = some k then none else p.arbiter })

/-- A ramp that ends with power-good asserted: CONFIGURING, monitoring, the download, then the next ramp (R81, R83). -/
def rampGood (k : Slot) (s : State) : State :=
  startRamp ((createDownload k (enterState k .configuring (s.modPow k fun r =>
    { r with rampTimer := none, monitoring := true, filter := false }))).modPower fun p => { p with arbiter := none })

/-- A ramp that ends with power-good deasserted: POWER_FAIL is reported with the claim's epoch, and its withdrawal frees
the arbiter (R73, R81, R85). -/
def rampBad (k : Slot) (s : State) : State :=
  match (s.pow k).claim with
  | some c => reportFault k c.epoch .powerFail none s
  | none => s

/-- RAMP_END (R81): good or bad by the level of power-good, when the report is taken (R5). -/
def execRampEnd (k : Slot) (s : State) : Host.Outcome State Fault Refusal :=
  if (s.pow k).rampTimer.isSome then
    .next (if rampEndTaken k s then (if (s.pow k).powerGood then rampGood k s else rampBad k s)
      else rampDiscarded k s)
  else .next s

/-- POWER_GOOD_DEASSERTED (R83): the filter starts while the line is monitored. -/
def execPowerGoodDeasserted (k : Slot) (s : State) : Host.Outcome State Fault Refusal :=
  .next (s.modPow k fun r => { r with powerGood := false, filter := r.filter || r.monitoring })

/-- POWER_GOOD_ASSERTED (R83): a running filter is stopped. -/
def execPowerGoodAsserted (k : Slot) (s : State) : Host.Outcome State Fault Refusal :=
  .next (s.modPow k fun r => { r with powerGood := true, filter := r.filter && !r.monitoring })

/-- POWER_GOOD_FILTER_EXPIRY (R83): POWER_LOST is reported with the claim's epoch. -/
def execPowerGoodFilterExpiry (k : Slot) (s : State) : Host.Outcome State Fault Refusal :=
  if (s.pow k).filter then
    match (s.pow k).claim with
    | some c => .next (reportFault k c.epoch .powerLost none (s.modPow k fun r => { r with filter := false }))
    | none => .next (s.modPow k fun r => { r with filter := false })
  else .next s

/-- CONFIGURATION_TIMEOUT (R104): the download is removed and CONFIG_TIMEOUT reported with its epoch. -/
def execConfigurationTimeout (k : Slot) (s : State) : Host.Outcome State Fault Refusal :=
  match s.download k with
  | some d => .next (reportFault k d.epoch .configTimeout none (s.setDownload k none))
  | none => .next s

end Sys2Proof.Machine
end

