-- ==== Sys2Proof/Machine/Presence.lean ====
section
/-!
DEFINITION. Presence Detection (chapter 2): PRESENCE_LINE_ASSERTED, PRESENCE_LINE_DEASSERTED,
INSERTION_DEBOUNCE_EXPIRY, REMOVAL_DEBOUNCE_EXPIRY. A timer's expiry that comes when the timer does not run does not
happen, and changes nothing (log 2).
-/
namespace Sys2Proof.Machine

/-- The insertion debounce starts, with the setting in force and the slot's epoch (R28, R29, R31). -/
def startInsertion (k : Slot) (s : State) : State :=
  s.modPres k fun r =>
    { r with phase := .inserting, timer := .insertion s.settings.insertionDebounce (s.slot k).epoch, line := true }

/-- A presence line is seen asserted (R29, R32). -/
def lineAsserted (k : Slot) (s : State) : State :=
  match (s.pres k).phase with
  | .absent =>
    let t := startInsertion k s
    if (s.slot k).state = .empty then enterState k .settling t else t
  | .removing => s.modPres k fun r => { r with phase := .seated, timer := .stopped, line := true }
  | .inserting => s.modPres k fun r => { r with line := true }
  | .seated => s.modPres k fun r => { r with line := true }

/-- A presence line is seen deasserted (R30, R32). -/
def lineDeasserted (k : Slot) (s : State) : State :=
  match (s.pres k).phase with
  | .inserting =>
    let t := s.modPres k fun r => { r with phase := .absent, timer := .stopped, line := false }
    if (s.slot k).state = .settling then t.modSlot k fun r => { r with state := .empty } else t
  | .seated =>
    s.modPres k fun r =>
      { r with phase := .removing, timer := .removal s.settings.removalDebounce, line := false }
  | .absent => s.modPres k fun r => { r with line := false }
  | .removing => s.modPres k fun r => { r with line := false }

/-- "Card arrived", with the epoch the slot had when the debounce started (R31). -/
def cardArrived (k : Slot) (e : Epoch) (s : State) : State :=
  if ((s.slot k).state = .settling ∨ (s.slot k).state = .quarantined) ∧ current s k e then
    let t := (s.modSlot k fun r => { r with epoch := r.epoch + 1, cardPresent := true }).modPres k fun r =>
      { r with auxSupply := true }
    if (s.slot k).state = .settling then admissionGate k (enterState k .present t) else t
  else s

/-- What the sequencer does with the slot record at "card gone" (R34, R35). -/
def emptySlot (k : Slot) (s : State) : State :=
  if (s.slot k).state = .quarantined then
    s.modSlot k fun r => { r with cardPresent := false, identity := none, profileIndex := none }
  else
    enterState k .empty (s.modSlot k fun r =>
      { r with cardPresent := false, identity := none, profileIndex := none, parkReason := none, faultReason := none
               cardCode := none })

/-- "Card gone": the slot record first (R34, R35), then every block that may hold something for the slot (R36). -/
def cardGone (k : Slot) (s : State) : State :=
  withdraw k (if (s.slot k).state.takesCardGone then emptySlot k s else s)

/-- PRESENCE_LINE_ASSERTED (R29, R32). -/
def execPresenceLineAsserted (k : Slot) (s : State) : Host.Outcome State Fault Refusal := .next (lineAsserted k s)

/-- PRESENCE_LINE_DEASSERTED (R30, R32). -/
def execPresenceLineDeasserted (k : Slot) (s : State) : Host.Outcome State Fault Refusal := .next (lineDeasserted k s)

/-- INSERTION_DEBOUNCE_EXPIRY (R31): the phase becomes SEATED and "card arrived" is reported. -/
def execInsertionDebounceExpiry (k : Slot) (s : State) : Host.Outcome State Fault Refusal :=
  match (s.pres k).timer with
  | .insertion _ e => .next (cardArrived k e (s.modPres k fun r => { r with phase := .seated, timer := .stopped }))
  | .removal _ => .next s
  | .stopped => .next s

/-- REMOVAL_DEBOUNCE_EXPIRY (R33): the phase becomes ABSENT, the auxiliary supply is switched off and "card gone" is
reported. -/
def execRemovalDebounceExpiry (k : Slot) (s : State) : Host.Outcome State Fault Refusal :=
  match (s.pres k).timer with
  | .removal _ =>
    .next (cardGone k (s.modPres k fun r => { r with phase := .absent, timer := .stopped, auxSupply := false }))
  | .insertion _ _ => .next s
  | .stopped => .next s

end Sys2Proof.Machine
end

