-- ==== Sys2Proof/Machine/RackRequests.lean ====
section
/-!
DEFINITION. The requests of the rack and the maps (chapters 8 and 10): NOTICE_FETCH, UNKNOWN_REQUEST, RACK_SET,
RACK_READ, MAP_READ; and the card accesses of chapter 6: CARD_READ, CARD_WRITE.
-/
namespace Sys2Proof.Machine

/-- NOTICE FETCH removes up to eight oldest notices (R182, R198). -/
def serveNoticeFetch (args : List Byte) (s : State) : State × Option Answer :=
  match noArgs args with
  | some () =>
    let taken := s.mgmt.notices.take Config.noticesPerFetch
    let left := s.mgmt.notices.drop Config.noticesPerFetch
    (s.modMgmt fun m => { m with notices := left },
      some (done ([byteOf taken.length, byteOf left.length] ++ taken.flatMap noticeBytes)))
  | none => badArgument s

/-! ## RACK SET (R123, R177, R178) -/

/-- The checks of R177 after the BAD_ARGUMENT check, in their order. -/
def rackSetReason (s : State) (r : RackSettings) : Option Reason :=
  if r.reserve < r.rate.minReserve then some .noFit
  else if !fits r s.maps.active.entries then some .noFit
  else if !(s.maps.offered.all fun m => fits r m.entries) then some .noFit
  else if r.rate ≠ s.settings.rate ∧ s.service.inFlight.isSome then some .busy
  else none

/-- The rack timing differs from the one in force (R124). -/
def timingDiffers (a b : RackSettings) : Bool := a.rate != b.rate || a.period != b.period || a.reserve != b.reserve

/-- A raised budget re-evaluates the Power Wait List (R74, R178). -/
def handBudget (before : RackSettings) (s : State) : State :=
  if before.budget < s.settings.budget then reevaluateClaims s else s

/-- An opening of admission releases every slot in PRESENT with mode AUTO, in slot order (R16). -/
def handAdmission (before : RackSettings) (s : State) : State :=
  if before.admission = .closed ∧ s.settings.admission = .opened then eachSlot allSlots admissionGate s else s

/-- A changed timing sets the recheck mark (R124). -/
def handTiming (before : RackSettings) (s : State) : State :=
  if timingDiffers before s.settings then s.modMaps fun b => { b with recheck := true } else s

/-- Every carried value is put in force at once, then each change is handed on, in the order of R178's table (log 15). -/
def putSettings (r : RackSettings) (s : State) : State :=
  let before := s.settings
  handTiming before (handAdmission before (handBudget before (s.modMgmt fun m => { m with settings := r.clamped })))

/-- A refused RACK SET reports every setting in force beside the reason (R174, R177). -/
def rackRefusal (reason : Reason) (s : State) : State × Option Answer :=
  (s, some ⟨.refused reason, settingsBytes s.settings⟩)

def serveRackSet (args : List Byte) (s : State) : State × Option Answer :=
  match rackSetArgs args with
  | some r =>
    match rackSetReason s r with
    | some reason => rackRefusal reason s
    | none => (putSettings r s, some (done (settingsBytes r.clamped)))
  | none => rackRefusal .badArgument s

/-- RACK READ: the settings and the counters as they stand, which the clear flag then sets to 0 (R180). -/
def serveRackRead (args : List Byte) (s : State) : State × Option Answer :=
  match rackReadArgs args with
  | some clear =>
    (if clear then modCounters (fun _ => LinkCounters.reset) s else s,
      some (done (settingsBytes s.settings ++ counterBytes s.mgmt.counters)))
  | none => badArgument s

/-! ## MAP READ (R143, R197) -/

/-- The contents of a MAP READ reply for a map, with the orphan test of that map (R197). -/
def mapReadBytes (s : State) (m : ImageMap) (orphan : MapEntry → Bool) : List Byte :=
  let es := (allSlots.filterMap (entryOf m.entries))
  be16 m.generation ++ [byteOf es.length] ++ es.flatMap (fun e => mapEntryBytes e (orphan e))
    ++ be16 (outputExtent m.entries) ++ be16 (inputExtent m.entries) ++ be16 (exchangeLength m.entries)
    ++ be16 (freeTime s.settings m.entries)
    ++ [byteOf s.maps.changes.length] ++ s.maps.changes.flatMap changeBytes
    ++ [byteOf s.maps.waitList.length]
    ++ s.maps.waitList.flatMap (fun k => [slotByte k, optionalByte parkReasonByte (s.slot k).parkReason])
    ++ [flagByte s.maps.recheck]

def serveMapRead (args : List Byte) (s : State) : State × Option Answer :=
  match mapReadArgs args with
  | some .active => (s, some (done (mapReadBytes s s.maps.active (orphanInActive s))))
  | some .offered =>
    match s.maps.offered with
    | some m => (s, some (done (mapReadBytes s m (orphanInOffered s))))
    | none => refusal .wrongState s
  | none => badArgument s

/-! ## Pass-through access (R106) -/

/-- The PARAM READ of a CARD READ (R88, R106). -/
def passThroughRead (tag : Byte) (k : Slot) (e : Epoch) (p : Byte) (n : Nat) : Transaction :=
  { identRead k e with
    kind := .paramRead, origin := .passThrough, parameter := some p, totalLength := n, replyTag := some tag }

/-- The PARAM WRITE of a CARD WRITE, with the bytes it carries (R88, R106). -/
def passThroughWrite (tag : Byte) (k : Slot) (e : Epoch) (p : Byte) (data : List Byte) : Transaction :=
  { identRead k e with
    kind := .paramWrite, origin := .passThrough, parameter := some p, totalLength := data.length
    source := some (.carried data), replyTag := some tag }

/-- Acceptance of a card access: WRONG_STATE unless RUNNING, BUSY with four outstanding; otherwise it is recorded as
outstanding, its transaction joins the queue, and there is no immediate reply (R106). -/
def acceptAccess (k : Slot) (p : PassThrough) (x : Transaction) (s : State) : State × Option Answer :=
  if (s.slot k).state ≠ .running then refusal .wrongState s
  else if Config.passThroughs ≤ s.mgmt.outstanding.length then refusal .busy s
  else (queueTransaction x (s.modMgmt fun m => { m with outstanding := m.outstanding ++ [p] }), none)

def serveCardRead (tag : Byte) (args : List Byte) (s : State) : State × Option Answer :=
  match cardReadArgs args with
  | some (k, p, n) =>
    acceptAccess k ⟨tag, k, (s.slot k).epoch, false⟩ (passThroughRead tag k (s.slot k).epoch p n) s
  | none => badArgument s

def serveCardWrite (tag : Byte) (args : List Byte) (s : State) : State × Option Answer :=
  match cardWriteArgs args with
  | some (k, p, data) =>
    acceptAccess k ⟨tag, k, (s.slot k).epoch, true⟩ (passThroughWrite tag k (s.slot k).epoch p data) s
  | none => badArgument s

/-- NOTICE_FETCH (R182). -/
def execNoticeFetch (tag : Byte) (args : List Byte) (s : State) : Host.Outcome State Fault Refusal :=
  .next (takeRequest tag 1 (serveNoticeFetch args) s)

/-- UNKNOWN_REQUEST (R173): refused BAD_ARGUMENT, the reply echoing the code received (R190). -/
def execUnknownRequest (tag code : Byte) (_args : List Byte) (s : State) : Host.Outcome State Fault Refusal :=
  .next (takeRequest tag code badArgument s)

/-- RACK_SET (R177, R178). -/
def execRackSet (tag : Byte) (args : List Byte) (s : State) : Host.Outcome State Fault Refusal :=
  .next (takeRequest tag 80 (serveRackSet args) s)

/-- RACK_READ (R180). -/
def execRackRead (tag : Byte) (args : List Byte) (s : State) : Host.Outcome State Fault Refusal :=
  .next (takeRequest tag 81 (serveRackRead args) s)

/-- MAP_READ (R143). -/
def execMapRead (tag : Byte) (args : List Byte) (s : State) : Host.Outcome State Fault Refusal :=
  .next (takeRequest tag 96 (serveMapRead args) s)

/-- CARD_READ (R106). -/
def execCardRead (tag : Byte) (args : List Byte) (s : State) : Host.Outcome State Fault Refusal :=
  .next (takeRequest tag 112 (serveCardRead tag args) s)

/-- CARD_WRITE (R106). -/
def execCardWrite (tag : Byte) (args : List Byte) (s : State) : Host.Outcome State Fault Refusal :=
  .next (takeRequest tag 113 (serveCardWrite tag args) s)

end Sys2Proof.Machine
end

