-- ==== Sys2Proof/Machine/Resets.lean ====
section
/-!
DEFINITION. COLD_RESET and RESTART, with the restart of each block as its chapter states it.
-/
namespace Sys2Proof.Machine

/-! ## Cold reset -/

/-- The coupler as a cold reset sets it: the reset values of every block, with any frame being received or sent
discarded; the input pins and the commands that wait are the world's and stay (R25, R37, R56, R72, R86, R99, R110, R144,
R167, R170, R176, R183; logs 1 and 5). -/
def coldState (s : State) : State :=
  { State.reset with
    presence := amendAll s.presence fun r => PresenceRecord.reset r.line
    power := { PowerController.reset with slots := amendAll s.power.slots fun r => PowerRecord.reset r.powerGood }
    pending := s.pending }

/-- When the reset ends, the level of a presence line is taken as a change to that level (R37). -/
def redetect (k : Slot) (s : State) : State := if (s.pres k).line then lineAsserted k s else s

/-- COLD_RESET (R25, R37). The slots whose lines are asserted enter SETTLING in slot order: R25, R37 and R183 state no
order among them (DESIGN CHOICE, log 32). -/
def execColdReset (s : State) : Host.Outcome State Fault Refusal :=
  .next (eachSlot allSlots redetect (coldState s))

/-! ## Restart -/

/-- A slot record after a restart, by whether its card is present (R26). -/
def restartSlot (r : SlotRecord) : SlotRecord :=
  { SlotRecord.reset with
    state := if r.cardPresent then .present else .empty, mode := r.mode, cardPresent := r.cardPresent
    epoch := if r.cardPresent then r.epoch + 1 else r.epoch }

/-- A slot's presence after a restart, from the card present field and the line as they stand; a removal debounce
that runs is begun anew (R38). The insertion debounces are begun by `resumeInsertion`. -/
def restartPresence (set : RackSettings) (cardPresent : Bool) (r : PresenceRecord) : PresenceRecord :=
  { r with
    phase := if cardPresent then (if r.line then .seated else .removing) else .absent
    timer := if cardPresent && !r.line then .removal set.removalDebounce else .stopped }

/-- The new insertion debounce of a slot whose line is asserted and whose card is not present: it moves the slot from
EMPTY to SETTLING with a notice (R38). -/
def resumeInsertion (k : Slot) (s : State) : State :=
  if (s.pres k).line && !(s.slot k).cardPresent then lineAsserted k s else s

/-- A segment's tail is run out on the backplane, with no transaction in flight (R97, R99). -/
def restartService (c : ServiceChannel) : ServiceChannel :=
  { ServiceChannel.reset with segment := c.segment.map fun g => { g with live := false } }

/-- The Cycle Engine after a restart; an exchange under way is cut off and leaves the backplane at its end (R168). -/
def restartCycle (c : CycleEngine) : CycleEngine :=
  { CycleEngine.reset with exchange := c.exchange.map fun x => { x with cut := true } }

/-- The Management Unit: replies not being sent, pass-throughs, Return Frames and notices are gone, the counters 0; the
settings, the frame being sent and the frame being received stay (R110, R170, R176, R183, R184). -/
def restartManagement (m : Management) : Management :=
  { Management.reset with receiver := m.receiver, settings := m.settings, transmitter := m.transmitter }

/-- Every block as its chapter states for a restart (R26, R38, R56, R72, R87, R99, R145, R168, R184). The tables, the
store and the settings are kept. -/
def restartBlocks (s : State) : State :=
  { s with
    slots := amendAll s.slots restartSlot
    presence := Vector.ofFn fun k => restartPresence s.settings (s.slot k).cardPresent (s.pres k)
    matcher := { s.matcher with attempts := Vector.replicate 16 none }
    power := { PowerController.reset with slots := amendAll s.power.slots fun r => PowerRecord.reset r.powerGood }
    service := restartService s.service
    maps := MapBuilder.reset
    cycle := restartCycle s.cycle
    mgmt := restartManagement s.mgmt }

/-- A restart as one event: the blocks, the insertion debounces begun anew, then the admission gate in slot order (R26,
R38, R184, log 16). -/
def restartAll (s : State) : State :=
  eachSlot allSlots admissionGate (eachSlot allSlots resumeInsertion (restartBlocks s))

/-- RESTART replies DONE with the active generation and the rack state when it is complete (R184, R196). -/
def serveRestart (args : List Byte) (s : State) : State × Option Answer :=
  match noArgs args with
  | some () =>
    let t := restartAll s
    (t, some (done (be16 t.maps.active.generation ++ [byteOf (rackStateCode t.cycle.rackState)])))
  | none => badArgument s

/-- RESTART (R184). -/
def execRestart (tag : Byte) (args : List Byte) (s : State) : Host.Outcome State Fault Refusal :=
  .next (takeRequest tag 128 (serveRestart args) s)

end Sys2Proof.Machine
end

