-- ==== Sys2Proof/Machine/Segments.lean ====
section
/-!
DEFINITION. Card Identification (chapter 3) and the service channel (chapter 6): SEGMENT_START,
SEGMENT_RESPONSE_TIMEOUT, SEGMENT_END.
-/
namespace Sys2Proof.Machine

/-! ## Evaluation of an identity record (R47 to R50) -/

/-- The quantity a rule tests, zero-extended to 32 bits (R47). -/
def ruleQuantity (k : Slot) (c : IdentityRecord) : RuleField → BitVec 32
  | .vendor => c.vendor.zeroExtend 32
  | .type => c.type.zeroExtend 32
  | .hwRev => c.hardware.zeroExtend 32
  | .fwRev => c.firmware.zeroExtend 32
  | .serial => c.serial
  | .slot => BitVec.ofNat 32 (slotNumber k)

/-- A rule compares the masked quantity with the masked value as unsigned whole numbers (R47). -/
def ruleMatches (k : Slot) (c : IdentityRecord) (r : Rule) : Bool :=
  let q := (ruleQuantity k c r.field &&& r.mask).toNat
  let v := (r.value &&& r.mask).toNat
  match r.operator with
  | .equal => q == v
  | .notEqual => q != v
  | .atLeast => v ≤ q
  | .atMost => q ≤ v

/-- The rules in their groups: a rule with chain yes stands in the group of the rule after it, and the last rule ends
its group whatever its chain flag (R48). -/
def ruleGroups : List Rule → List (List Rule)
  | [] => []
  | r :: rest =>
    match r.chain, ruleGroups rest with
    | true, g :: gs => (r :: g) :: gs
    | _, gs => [r] :: gs

/-- The decision of a rule's action field (R46). -/
def ruleDecision (r : Rule) : Decision :=
  match r.action with
  | .reject => .reject
  | .assign => .assign r.profile

/-- A group decides when it has an enabled member and every enabled member matches, with the action of its first
enabled member (R49). -/
def groupDecision (k : Slot) (c : IdentityRecord) (g : List Rule) : Option Decision :=
  match g.filter (·.enabled) with
  | [] => none
  | r :: rest => if (r :: rest).all (ruleMatches k c) then some (ruleDecision r) else none

/-- The first group that matches decides, else the default action (R50). -/
def evaluateIdentity (m : Matcher) (k : Slot) (c : IdentityRecord) : Decision :=
  ((ruleGroups m.rules.toList).findSome? (groupDecision k c)).getD m.defaultAction

/-! ## Identity reads (R42 to R45, R51) -/

/-- The record that a successful attempt reads: ANSWERED, ACCEPT, 12 data bytes, a vendor code of 1..65534 (R42). -/
def goodRead : SegmentOutcome → Option IdentityRecord
  | .answered (.accept data) => (identityOf data).filter fun r => r.vendor ≠ 0 && r.vendor ≠ 0xFFFF
  | _ => none

/-- The match is acted on: REJECT faults NO_MATCH, an invalid profile PROFILE_ABSENT, and a valid one is recorded and
its claim requested (R51, R52). -/
def actOnMatch (k : Slot) (e : Epoch) (d : Decision) (s : State) : State :=
  match d with
  | .reject => reportFault k e .noMatch none s
  | .assign p =>
    if (s.profile p).valid then
      if (s.slot k).state = .identifying ∧ current s k e then
        requestClaim k (s.modSlot k fun r => { r with profileIndex := some p })
      else s
    else reportFault k e .profileAbsent none s

/-- A good read: the record is stored and the attempt record removed; format 1 is evaluated, any other faults
IDENT_FORMAT (R44). -/
def takeIdentity (k : Slot) (e : Epoch) (c : IdentityRecord) (s : State) : State :=
  let t := (s.modSlot k fun r => { r with identity := some c }).setAttempt k none
  if c.format = 1 then actOnMatch k e (evaluateIdentity s.matcher k c) t else reportFault k e .identFormat none t

/-- A failed attempt: the next one joins the tail of the queue, or the third faults IDENT_TIMEOUT (R43). -/
def failAttempt (k : Slot) (a : Attempt) (s : State) : State :=
  if a.number < Config.identAttempts then
    queueTransaction (identRead k a.epoch) (s.setAttempt k (some { a with number := a.number + 1 }))
  else reportFault k a.epoch .identTimeout none (s.setAttempt k none)

/-- The completion of an IDENT READ is taken when the slot's attempt record bears its epoch (R45). -/
def identCompletion (x : Transaction) (o : SegmentOutcome) (s : State) : State :=
  match s.attempt x.slot with
  | some a =>
    if a.epoch = x.epoch then
      match goodRead o with
      | some c => takeIdentity x.slot x.epoch c s
      | none => failAttempt x.slot a s
    else s
  | none => s

/-! ## Completion of the PARAM kinds (R101 to R103, R108) -/

/-- How a PARAM transaction completes (R94). -/
inductive Completion where
  | accepted (data : List Byte)
  | refused (code : Byte)
  | timeout
  deriving DecidableEq, Repr

/-- The completion concerns the download: the same epoch, and its own record or the commit (R101, R102). -/
def Download.awaits (d : Download) (x : Transaction) : Bool :=
  d.epoch == x.epoch && match d.step with
    | .record n => x.kind == .paramWrite && x.recordNumber == some n
    | .commit => x.kind == .paramCommit

/-- The download is complete: the sequencer takes the report in CONFIGURING, the slot enters MAP_WAIT and an ADD joins
the Change List (R102, R129). -/
def downloadComplete (k : Slot) (e : Epoch) (s : State) : State :=
  if (s.slot k).state = .configuring ∧ current s k e then
    (enterState k .mapWait s).modMaps fun b => { b with changes := b.changes ++ [.add k] }
  else s

/-- The completion of a download's transaction (R101 to R103). -/
def downloadCompletion (x : Transaction) (c : Completion) (s : State) : State :=
  let k := x.slot
  match s.download k with
  | some d =>
    if d.awaits x then
      match c, d.step with
      | .accepted _, .record n =>
        let next := downloadNext k d.epoch (s.profile d.profile) (n + 1)
        queueTransaction next.2 (s.setDownload k (some { d with step := next.1 }))
      | .accepted _, .commit => downloadComplete k d.epoch (s.setDownload k none)
      | .refused code, _ => reportFault k d.epoch .cardRefused (some code) (s.setDownload k none)
      | .timeout, _ => reportFault k d.epoch .cardTimeout none (s.setDownload k none)
    else s
  | none => s

/-- The deferred reply of a pass-through, by how it completed (R108). -/
def passThroughAnswer (x : Transaction) : Completion → Answer
  | .accepted data =>
    done ([slotByte x.slot, x.parameter.getD 0]
      ++ (if x.kind = .paramWrite then [byteOf x.totalLength] else data))
  | .refused code => ⟨.cardRefused code, [slotByte x.slot]⟩
  | .timeout => ⟨.cardTimeout, [slotByte x.slot]⟩

/-- The record under which the Management Unit holds a pass-through (R106). -/
def passThroughOf (x : Transaction) : PassThrough :=
  { tag := x.replyTag.getD 0, slot := x.slot, epoch := x.epoch, write := x.kind == .paramWrite }

/-- The completion of a pass-through forms its deferred reply (R108). -/
def passThroughCompletion (x : Transaction) (c : Completion) (s : State) : State :=
  if passThroughOf x ∈ s.mgmt.outstanding then settlePassThrough (passThroughOf x) (passThroughAnswer x c) s else s

/-- A completed PARAM transaction goes to its download or to the Management Unit (R88). -/
def completeTransaction (x : Transaction) (c : Completion) (s : State) : State :=
  match x.origin with
  | .sequencer => downloadCompletion x c s
  | .passThrough => passThroughCompletion x c s

/-! ## Segments (R91 to R95) -/

/-- The data bytes that the segment at a transaction's position moves: at most 64 (R91). -/
def segmentLength (x : Transaction) : Nat := min Config.segmentData (x.totalLength - x.position)

/-- The segment at the position is the transaction's last (R91). -/
def isLastSegment (x : Transaction) : Bool := x.totalLength ≤ x.position + segmentLength x

/-- The data bytes a segment carries to the card: those of a PARAM WRITE, read as the segment is sent (R61, R88). -/
def segmentPayload (m : Memory) (x : Transaction) : List Byte :=
  match x.source with
  | some (.storeRange o _) => m.readRange (o + x.position) (segmentLength x)
  | some (.carried bytes) => (bytes.drop x.position).take (segmentLength x)
  | none => []

/-- The Service Telegram of a transaction's segment at its position (R91, R202). -/
def segmentTelegram (m : Memory) (x : Transaction) : List Byte :=
  serviceTelegram x.slot x.kind (isLastSegment x) (x.parameter.getD 0) x.position (segmentLength x) (segmentPayload m x)

/-- The number of data bytes an ACCEPT carries: those asked for with PARAM READ, none to a PARAM WRITE or PARAM COMMIT
(R93). -/
def expectedData (x : Transaction) : Nat := if x.kind = .paramRead then segmentLength x else 0

/-- An ACCEPT of a PARAM kind with another number of data bytes is CRC_ERROR (R93). -/
def checkLength (x : Transaction) (o : SegmentOutcome) : SegmentOutcome :=
  match x.kind, o with
  | .identRead, o => o
  | _, .answered (.accept data) => if data.length = expectedData x then o else .crcError
  | _, o => o

/-- The outcome of a segment from what arrived (R92, R93). -/
def segmentOutcome (g : Segment) (x : Transaction) (answer : List Byte) : SegmentOutcome :=
  if g.timedOut then .noAnswer else checkLength x (answerOutcome x.slot answer)

def setInFlight (x : Option Transaction) (s : State) : State := s.modService fun c => { c with inFlight := x }

/-- A failed segment of a PARAM kind is sent once more, and the second failure completes the transaction with
CARD_TIMEOUT (R94). -/
def failSegment (x : Transaction) (s : State) : State :=
  if x.repeatUsed then completeTransaction x .timeout (setInFlight none s)
  else setInFlight (some { x with repeatUsed := true }) s

/-- An accepted segment of a PARAM kind: the last completes the transaction, any other moves the position on (R94). -/
def acceptSegment (x : Transaction) (data : List Byte) (s : State) : State :=
  if isLastSegment x then completeTransaction x (.accepted (x.gathered ++ data)) (setInFlight none s)
  else
    setInFlight (some { x with position := x.position + segmentLength x, gathered := x.gathered ++ data
                               repeatUsed := false }) s

/-- The segment's outcome acts on its transaction (R94). -/
def actOnOutcome (x : Transaction) (o : SegmentOutcome) (s : State) : State :=
  match x.kind with
  | .identRead => identCompletion x o (setInFlight none s)
  | .paramWrite | .paramCommit | .paramRead =>
    match o with
    | .answered (.accept data) => acceptSegment x data s
    | .answered (.refuse code) => completeTransaction x (.refused code) (setInFlight none s)
    | .answered .busy => queueTransaction { x with repeatUsed := false } (setInFlight none s)
    | .noAnswer => failSegment x s
    | .crcError => failSegment x s

/-- The transaction whose segment starts next, and the queue left: the one in flight, else the oldest queued (R95). -/
def nextTransaction (c : ServiceChannel) : Option (Transaction × List Transaction) :=
  match c.inFlight, c.queue with
  | some x, q => some (x, q)
  | none, x :: q => some (x, q)
  | none, [] => none

/-- SEGMENT_START (R90, R95): at the rate in force (R96). -/
def execSegmentStart (s : State) : Host.Outcome State Fault Refusal :=
  if freeForSegment s then
    match nextTransaction s.service with
    | some (x, q) =>
      .next (s.modService fun c =>
        { c with queue := q, inFlight := some x
                 segment := some { live := true, timedOut := false, bitTime := s.settings.rate.bitTime
                                   telegram := segmentTelegram s.library.store x } })
    | none => .next s
  else .next s

/-- SEGMENT_RESPONSE_TIMEOUT (R92): the outcome of the segment is NO_ANSWER. -/
def execSegmentResponseTimeout (s : State) : Host.Outcome State Fault Refusal :=
  .next (s.modService fun c => { c with segment := c.segment.map fun g => { g with timedOut := true } })

/-- SEGMENT_END (R93, R94): the backplane is freed and, if the segment's transaction is still in flight, the outcome
acts on it. What arrives for a transaction that was ended is discarded (R97). -/
def execSegmentEnd (answer : List Byte) (s : State) : Host.Outcome State Fault Refusal :=
  match s.service.segment with
  | some g =>
    let t := s.modService fun c => { c with segment := none }
    match g.live, s.service.inFlight with
    | true, some x => .next (actOnOutcome x (segmentOutcome g x answer) t)
    | true, none => .next t
    | false, _ => .next t
  | none => .next s

end Sys2Proof.Machine
end

