-- ==== Sys2Proof/Machine/SlotRequests.lean ====
section
/-!
DEFINITION. The slot requests (chapter 1): SLOT_MODE, SLOT_START, SLOT_STOP, SLOT_CLEAR, SLOT_READ.
-/
namespace Sys2Proof.Machine

/-- A slot request that is DONE replies with the slot's state, mode and epoch after it (R17, R194). -/
def slotDone (k : Slot) (s : State) : State × Option Answer := (s, some (done (slotReplyBytes k (s.slot k))))

/-- SLOT MODE sets the mode; AUTO on a slot in PRESENT applies the gate; the mode already set changes nothing (R15, R18). -/
def setMode (k : Slot) (m : Mode) (s : State) : State :=
  if (s.slot k).mode = m then s
  else
    let t := s.modSlot k fun r => { r with mode := m }
    if m = .auto then admissionGate k t else t

def serveSlotMode (args : List Byte) (s : State) : State × Option Answer :=
  match slotModeArgs args with
  | some (k, m) => slotDone k (setMode k m s)
  | none => badArgument s

/-- SLOT START takes a slot in PRESENT with mode AUTO or MANUAL to IDENTIFYING (R19). -/
def serveSlotStart (args : List Byte) (s : State) : State × Option Answer :=
  match slotArgs args with
  | some k =>
    if (s.slot k).state = .present ∧ (s.slot k).mode ≠ .blocked then slotDone k (enterIdentifying k s)
    else refusal .wrongState s
  | none => badArgument s

/-- The steps of a SLOT STOP (R20). -/
def stopSlot (k : Slot) (s : State) : State :=
  enterState k .present ((withdraw k s).modSlot k fun r =>
    { r with mode := .manual, profileIndex := none, parkReason := none })

def serveSlotStop (args : List Byte) (s : State) : State × Option Answer :=
  match slotArgs args with
  | some k => if (s.slot k).state.stoppable then slotDone k (stopSlot k s) else refusal .wrongState s
  | none => badArgument s

/-- SLOT CLEAR of a FAULTED slot: PRESENT, then the admission gate (R21). -/
def clearFaulted (k : Slot) (s : State) : State :=
  admissionGate k (enterState k .present (s.modSlot k fun r =>
    { r with faultReason := none, cardCode := none, profileIndex := none }))

/-- The state a QUARANTINED slot is cleared to (R22). -/
def clearedState (s : State) (k : Slot) : SlotState :=
  if (s.slot k).cardPresent then .present else if (s.pres k).phase = .inserting then .settling else .empty

/-- SLOT CLEAR of a QUARANTINED slot, which is left in mode MANUAL (R22). A slot cleared to PRESENT stays there. -/
def clearQuarantined (k : Slot) (s : State) : State :=
  enterState k (clearedState s k) (s.modSlot k fun r =>
    { r with faultRun := 0, mode := .manual, faultReason := none, cardCode := none, profileIndex := none })

def serveSlotClear (args : List Byte) (s : State) : State × Option Answer :=
  match slotArgs args with
  | some k =>
    if (s.slot k).state = .faulted then slotDone k (clearFaulted k s)
    else if (s.slot k).state = .quarantined then slotDone k (clearQuarantined k s)
    else refusal .wrongState s
  | none => badArgument s

/-- SLOT READ replies with the whole slot record (R23, R194). -/
def serveSlotRead (args : List Byte) (s : State) : State × Option Answer :=
  match slotArgs args with
  | some k => (s, some (done (slotReadBytes k (s.slot k) (s.powerClaim k))))
  | none => badArgument s

/-- SLOT_MODE (R18). -/
def execSlotMode (tag : Byte) (args : List Byte) (s : State) : Host.Outcome State Fault Refusal :=
  .next (takeRequest tag 16 (serveSlotMode args) s)

/-- SLOT_START (R19). -/
def execSlotStart (tag : Byte) (args : List Byte) (s : State) : Host.Outcome State Fault Refusal :=
  .next (takeRequest tag 17 (serveSlotStart args) s)

/-- SLOT_STOP (R20). -/
def execSlotStop (tag : Byte) (args : List Byte) (s : State) : Host.Outcome State Fault Refusal :=
  .next (takeRequest tag 18 (serveSlotStop args) s)

/-- SLOT_CLEAR (R21, R22). -/
def execSlotClear (tag : Byte) (args : List Byte) (s : State) : Host.Outcome State Fault Refusal :=
  .next (takeRequest tag 19 (serveSlotClear args) s)

/-- SLOT_READ (R23). -/
def execSlotRead (tag : Byte) (args : List Byte) (s : State) : Host.Outcome State Fault Refusal :=
  .next (takeRequest tag 20 (serveSlotRead args) s)

end Sys2Proof.Machine
end

