-- ==== Sys2Proof/Machine/TableRequests.lean ====
section
/-!
DEFINITION. The requests of the loaded tables: PROFILE_LOAD, PROFILE_DROP, PROFILE_PURGE, PROFILE_READ (chapter 4),
RULE_WRITE, RULE_READ, RULE_DEFAULT (chapter 3), STORE_WRITE, STORE_READ (chapter 4).
-/
namespace Sys2Proof.Machine

/-! ## Profiles -/

/-- PROFILE LOAD: LOCKED, then IN_USE, then the profile is replaced as a whole (R64, R65). -/
def serveProfileLoad (args : List Byte) (s : State) : State × Option Answer :=
  match profileLoadArgs args with
  | some (i, p) =>
    if (s.profile i).locked then refusal .locked s
    else if inUse s i then refusal .inUse s
    else (s.setProfile i p, some (done (profileBytes p)))
  | none => badArgument s

/-- PROFILE DROP: LOCKED without force, then IN_USE whatever the flag, then the profile is invalid (R66). -/
def serveProfileDrop (args : List Byte) (s : State) : State × Option Answer :=
  match profileDropArgs args with
  | some (i, force) =>
    if (s.profile i).locked && !force then refusal .locked s
    else if inUse s i then refusal .inUse s
    else (s.setProfile i Profile.reset, some (done [flagByte (s.profile i).valid]))
  | none => badArgument s

/-- The profiles a purge drops: valid, not locked, not in use, decided once (R67). -/
def purgeable (s : State) : List ProfileIndex :=
  allProfiles.filter fun i => (s.profile i).valid && !(s.profile i).locked && !inUse s i

/-- PROFILE PURGE (R67). -/
def serveProfilePurge (args : List Byte) (s : State) : State × Option Answer :=
  match noArgs args with
  | some () =>
    ((purgeable s).foldl (fun t i => t.setProfile i Profile.reset) s, some (done [byteOf (purgeable s).length]))
  | none => badArgument s

/-- PROFILE READ: every field as stored, then the in-use condition (R68). -/
def serveProfileRead (args : List Byte) (s : State) : State × Option Answer :=
  match profileReadArgs args with
  | some i =>
    (s, some (done ([flagByte (s.profile i).valid] ++ profileBytes (s.profile i) ++ [flagByte (inUse s i)])))
  | none => badArgument s

/-! ## Rules -/

/-- RULE WRITE replaces one rule as a whole (R53). -/
def serveRuleWrite (args : List Byte) (s : State) : State × Option Answer :=
  match ruleWriteArgs args with
  | some (i, r) =>
    ({ s with matcher := { s.matcher with rules := amend s.matcher.rules i fun _ => r } }, some (done (ruleBytes r)))
  | none => badArgument s

/-- RULE READ: the rule, then the default action (R54). -/
def serveRuleRead (args : List Byte) (s : State) : State × Option Answer :=
  match ruleReadArgs args with
  | some i =>
    (s, some (done (ruleBytes (look s.matcher.rules i) ++ decisionBytes s.matcher.defaultAction)))
  | none => badArgument s

/-- RULE DEFAULT sets the default action (R55). -/
def serveRuleDefault (args : List Byte) (s : State) : State × Option Answer :=
  match ruleDefaultArgs args with
  | some d => ({ s with matcher := { s.matcher with defaultAction := d } }, some (done (decisionBytes d)))
  | none => badArgument s

/-! ## The Parameter Store -/

/-- STORE WRITE: LOCKED, then IN_USE, by the ranges the written range overlaps; then all bytes at once (R70). -/
def serveStoreWrite (args : List Byte) (s : State) : State × Option Answer :=
  match storeWriteArgs args with
  | some (o, data) =>
    if touchesLocked s ⟨o, data.length⟩ then refusal .locked s
    else if touchesInUse s ⟨o, data.length⟩ then refusal .inUse s
    else (s.setStore (s.library.store.writeRange o data), some (done (be16 o ++ [byteOf data.length])))
  | none => badArgument s

/-- STORE READ replies with the bytes of the range (R71). -/
def serveStoreRead (args : List Byte) (s : State) : State × Option Answer :=
  match storeReadArgs args with
  | some (o, n) => (s, some (done (s.library.store.readRange o n)))
  | none => badArgument s

/-- PROFILE_LOAD (R64, R65). -/
def execProfileLoad (tag : Byte) (args : List Byte) (s : State) : Host.Outcome State Fault Refusal :=
  .next (takeRequest tag 32 (serveProfileLoad args) s)

/-- PROFILE_DROP (R66). -/
def execProfileDrop (tag : Byte) (args : List Byte) (s : State) : Host.Outcome State Fault Refusal :=
  .next (takeRequest tag 33 (serveProfileDrop args) s)

/-- PROFILE_PURGE (R67). -/
def execProfilePurge (tag : Byte) (args : List Byte) (s : State) : Host.Outcome State Fault Refusal :=
  .next (takeRequest tag 34 (serveProfilePurge args) s)

/-- PROFILE_READ (R68). -/
def execProfileRead (tag : Byte) (args : List Byte) (s : State) : Host.Outcome State Fault Refusal :=
  .next (takeRequest tag 35 (serveProfileRead args) s)

/-- RULE_WRITE (R53). -/
def execRuleWrite (tag : Byte) (args : List Byte) (s : State) : Host.Outcome State Fault Refusal :=
  .next (takeRequest tag 48 (serveRuleWrite args) s)

/-- RULE_READ (R54). -/
def execRuleRead (tag : Byte) (args : List Byte) (s : State) : Host.Outcome State Fault Refusal :=
  .next (takeRequest tag 49 (serveRuleRead args) s)

/-- RULE_DEFAULT (R55). -/
def execRuleDefault (tag : Byte) (args : List Byte) (s : State) : Host.Outcome State Fault Refusal :=
  .next (takeRequest tag 50 (serveRuleDefault args) s)

/-- STORE_WRITE (R70). -/
def execStoreWrite (tag : Byte) (args : List Byte) (s : State) : Host.Outcome State Fault Refusal :=
  .next (takeRequest tag 64 (serveStoreWrite args) s)

/-- STORE_READ (R71). -/
def execStoreRead (tag : Byte) (args : List Byte) (s : State) : Host.Outcome State Fault Refusal :=
  .next (takeRequest tag 65 (serveStoreRead args) s)

end Sys2Proof.Machine
end

