-- ==== Sys2Proof/Machine/Dispatch.lean ====
section
/-!
DEFINITION. The meaning of every command, one arm for each row of spec/opcode_table.json.
-/
namespace Sys2Proof.Machine

def exec (i : Instr) (s : State) : Host.Outcome State Fault Refusal :=
  match i with
  | .coldReset => Sys2Proof.Machine.execColdReset s
  | .presenceLineAsserted slot => Sys2Proof.Machine.execPresenceLineAsserted slot s
  | .presenceLineDeasserted slot => Sys2Proof.Machine.execPresenceLineDeasserted slot s
  | .insertionDebounceExpiry slot => Sys2Proof.Machine.execInsertionDebounceExpiry slot s
  | .removalDebounceExpiry slot => Sys2Proof.Machine.execRemovalDebounceExpiry slot s
  | .segmentStart => Sys2Proof.Machine.execSegmentStart s
  | .segmentResponseTimeout => Sys2Proof.Machine.execSegmentResponseTimeout s
  | .segmentEnd answer => Sys2Proof.Machine.execSegmentEnd answer s
  | .rampEnd slot => Sys2Proof.Machine.execRampEnd slot s
  | .powerGoodDeasserted slot => Sys2Proof.Machine.execPowerGoodDeasserted slot s
  | .powerGoodAsserted slot => Sys2Proof.Machine.execPowerGoodAsserted slot s
  | .powerGoodFilterExpiry slot => Sys2Proof.Machine.execPowerGoodFilterExpiry slot s
  | .configurationTimeout slot => Sys2Proof.Machine.execConfigurationTimeout slot s
  | .build => Sys2Proof.Machine.execBuild s
  | .cycleFrame body => Sys2Proof.Machine.execCycleFrame body s
  | .frameServiceStart => Sys2Proof.Machine.execFrameServiceStart s
  | .responseWindowClose inWindow response => Sys2Proof.Machine.execResponseWindowClose inWindow response s
  | .exchangeEnd => Sys2Proof.Machine.execExchangeEnd s
  | .cycleWatchdogExpiry => Sys2Proof.Machine.execCycleWatchdogExpiry s
  | .safeExchangeTimerExpiry => Sys2Proof.Machine.execSafeExchangeTimerExpiry s
  | .safeExchangeStart => Sys2Proof.Machine.execSafeExchangeStart s
  | .badCrcFrame => Sys2Proof.Machine.execBadCrcFrame s
  | .upstreamFrameEnd => Sys2Proof.Machine.execUpstreamFrameEnd s
  | .unknownRequest tag code args => Sys2Proof.Machine.execUnknownRequest tag code args s
  | .noticeFetch tag args => Sys2Proof.Machine.execNoticeFetch tag args s
  | .slotMode tag args => Sys2Proof.Machine.execSlotMode tag args s
  | .slotStart tag args => Sys2Proof.Machine.execSlotStart tag args s
  | .slotStop tag args => Sys2Proof.Machine.execSlotStop tag args s
  | .slotClear tag args => Sys2Proof.Machine.execSlotClear tag args s
  | .slotRead tag args => Sys2Proof.Machine.execSlotRead tag args s
  | .profileLoad tag args => Sys2Proof.Machine.execProfileLoad tag args s
  | .profileDrop tag args => Sys2Proof.Machine.execProfileDrop tag args s
  | .profilePurge tag args => Sys2Proof.Machine.execProfilePurge tag args s
  | .profileRead tag args => Sys2Proof.Machine.execProfileRead tag args s
  | .ruleWrite tag args => Sys2Proof.Machine.execRuleWrite tag args s
  | .ruleRead tag args => Sys2Proof.Machine.execRuleRead tag args s
  | .ruleDefault tag args => Sys2Proof.Machine.execRuleDefault tag args s
  | .storeWrite tag args => Sys2Proof.Machine.execStoreWrite tag args s
  | .storeRead tag args => Sys2Proof.Machine.execStoreRead tag args s
  | .rackSet tag args => Sys2Proof.Machine.execRackSet tag args s
  | .rackRead tag args => Sys2Proof.Machine.execRackRead tag args s
  | .mapRead tag args => Sys2Proof.Machine.execMapRead tag args s
  | .cardRead tag args => Sys2Proof.Machine.execCardRead tag args s
  | .cardWrite tag args => Sys2Proof.Machine.execCardWrite tag args s
  | .restart tag args => Sys2Proof.Machine.execRestart tag args s

end Sys2Proof.Machine
end

