-- ==== Sys2Proof/Machine/Receiver.lean ====
section
/-!
DEFINITION. The head link's receiver (R169, R170): what the link delivers, symbol by symbol, and how a frame that ends
becomes a command that waits. No row of the table is a symbol of the link, so hearing one is no step (log 27).
-/
namespace Sys2Proof.Machine

/-- What the head link delivers downstream (R169). -/
inductive LinkSymbol where
  | startDelimiter
  | byte (value : Byte)
  | endDelimiter
  deriving DecidableEq, Repr

def State.setReceiver (s : State) (frame : Option (List Byte)) : State :=
  s.modMgmt fun m => { m with receiver := frame }

/-- A command joins the tail of the queue: frames are handed on in the order in which they end (R169). -/
def State.handOn (s : State) (c : Instr) : State := { s with pending := s.pending ++ [c] }

/-- The receiver hears one symbol. A start delimiter begins a frame and breaks off the one being received; an end
delimiter ends it, and its command is handed on; outside a frame everything but a start delimiter is passed over
(R169, R170). -/
def State.hear (s : State) (x : LinkSymbol) : State :=
  match x, s.mgmt.receiver with
  | .startDelimiter, none => s.setReceiver (some [])
  | .startDelimiter, some frame => (s.handOn (receiveFrame true frame)).setReceiver (some [])
  | .byte b, some frame => s.setReceiver (some (frame ++ [b]))
  | .byte _, none => s
  | .endDelimiter, some frame => (s.handOn (receiveFrame false frame)).setReceiver none
  | .endDelimiter, none => s

end Sys2Proof.Machine
end

