-- ==== Sys2Proof/Safety.lean ====
section
/-!
DEFINITION. What claims are stated in: which states are sound, block by block, and the relations between the states
before and after a withdrawal, a fault entry and a request.
-/
namespace Sys2Proof.Machine

/-! ## Sound states

Each predicate is what the spec says of every state that a run reaches. -/

/-- Every rack setting lies in its range (R176), the reserve at or above the rate's minimum (R121). -/
def SettingsSound (r : RackSettings) : Prop :=
  (250 ≤ r.period ∧ r.period ≤ 10000) ∧ r.rate.minReserve ≤ r.reserve ∧ r.budget ≤ 65535
    ∧ (1 ≤ r.missLimit ∧ r.missLimit ≤ 15) ∧ r.rampGrace ≤ 15 ∧ (2 ≤ r.watchdog ∧ r.watchdog ≤ 255)
    ∧ (10 ≤ r.insertionDebounce ∧ r.insertionDebounce ≤ 500) ∧ (1 ≤ r.removalDebounce ∧ r.removalDebounce ≤ 50)

/-- Every field of a profile lies in its range (R57 to R59); an invalid profile holds the reset values. -/
def ProfileSound (p : Profile) : Prop :=
  (1 ≤ p.powerDraw ∧ p.powerDraw ≤ 2000) ∧ (1 ≤ p.rampTime ∧ p.rampTime ≤ 250)
    ∧ (10 ≤ p.configTimeout ∧ p.configTimeout ≤ 10000) ∧ p.outputLength ≤ 128 ∧ p.inputLength ≤ 128
    ∧ (p.alignment = 1 ∨ p.alignment = 2 ∨ p.alignment = 4)
    ∧ (p.patternOffset.isSome = true ↔ p.safeMode = .pattern)
    ∧ (∀ o, p.patternOffset = some o → o ≤ 16383 ∧ o + p.outputLength ≤ 16384)
    ∧ p.records.length ≤ 8
    ∧ (∀ r ∈ p.records, 1 ≤ r.length ∧ r.length ≤ 1024 ∧ r.offset ≤ 16383 ∧ r.offset + r.length ≤ 16384)
    ∧ (p.valid = false → p = Profile.reset)

/-- The tables and the settings hold legal values, and the store is in canonical form. -/
def TablesSound (s : State) : Prop :=
  SettingsSound s.settings ∧ (∀ i : ProfileIndex, ProfileSound (s.profile i)) ∧ s.library.store.wf = true

/-- No two regions of one direction overlap, none is empty, and none extends past offset 1023 (R113). -/
def RegionsSound (rs : List Region) : Prop :=
  rs.Pairwise (fun a b => ∀ o, ¬ ((a.offset ≤ o ∧ o < a.offset + a.length) ∧ (b.offset ≤ o ∧ o < b.offset + b.length)))
    ∧ ∀ r ∈ rs, 1 ≤ r.length ∧ r.offset + r.length ≤ 1024

/-- A map's entries: at most one for each slot, in slot order, with sound regions in both directions (R111, R113). -/
def EntriesSound (es : List MapEntry) : Prop :=
  es.Pairwise (fun a b => a.slot < b.slot) ∧ RegionsSound (es.filterMap (·.output))
    ∧ RegionsSound (es.filterMap (·.input))

/-- Both maps are sound and fit the settings in force (R113, R118), and their generations stand as R127 says. -/
def MapsSound (s : State) : Prop :=
  EntriesSound s.maps.active.entries ∧ fits s.settings s.maps.active.entries = true
    ∧ (1 ≤ s.maps.active.generation ∧ s.maps.active.generation ≤ 65535)
    ∧ ∀ m, s.maps.offered = some m →
        EntriesSound m.entries ∧ fits s.settings m.entries = true
          ∧ m.generation = (if s.maps.active.generation = 65535 then 1 else s.maps.active.generation + 1)

/-- The Notice Queue: one notice for each subject, twenty at most, counts 1..255 (R181). -/
def NoticesSound (m : Management) : Prop :=
  m.notices.Pairwise (fun a b => subjectOf a.body ≠ subjectOf b.body) ∧ m.notices.length ≤ 20
    ∧ ∀ n ∈ m.notices, 1 ≤ n.count ∧ n.count ≤ 255

/-- The upstream side: four waiting Return Frames, eight places and four outstanding accesses at most, and nothing
waits while the transmitter is idle (R106, R171, R172, R175). -/
def UpstreamSound (m : Management) : Prop :=
  m.returnLine.length ≤ 4 ∧ placesTaken m ≤ 8 ∧ m.outstanding.length ≤ 4
    ∧ (m.transmitter = .idle → m.returnLine = [] ∧ m.replyQueue = [])

/-- The service transactions, the one in flight first. -/
def serviceWork (c : ServiceChannel) : List Transaction := c.inFlight.toList ++ c.queue

/-- Pass-through transactions are PARAM READ and PARAM WRITE alone (R88). -/
def passThroughKinds (c : ServiceChannel) : Prop :=
  ∀ x ∈ serviceWork c, x.origin = .passThrough → x.kind = .paramRead ∨ x.kind = .paramWrite

/-- The head link's queues, and the outstanding accesses as the service channel's pass-through transactions (R89,
R106). -/
def HeadLinkSound (s : State) : Prop :=
  NoticesSound s.mgmt ∧ UpstreamSound s.mgmt ∧ passThroughKinds s.service
    ∧ List.Perm (((serviceWork s.service).filter (·.origin == .passThrough)).map passThroughOf) s.mgmt.outstanding

/-- The Cycle Engine: the timers of each rack state (R147), the backplane's one user at a time (R95), and the miss
counts (R146, R156). -/
def CycleSound (s : State) : Prop :=
  (s.cycle.watchdog.isSome = true ↔ s.cycle.rackState = .run)
    ∧ (s.cycle.safeTimer.isSome = true ↔ s.cycle.rackState = .safe)
    ∧ (s.cycle.safeDue = true → s.cycle.rackState = .safe)
    ∧ (s.cycle.lastCount = none ↔ s.cycle.rackState = .idle)
    ∧ (s.cycle.rackState = .idle → s.cycle.holder = none)
    ∧ (∀ x, s.cycle.exchange = some x → s.service.segment = none ∧ x.outcomes.length ≤ x.addressed.length)
    ∧ ∀ k : Slot, (s.cyc k).missCount ≤ 30 ∧ ((s.slot k).state = .running → (s.cyc k).missCount ≤ 29)

/-- The Power Controller against the slot states, as the table of R4 and chapter 5 have it. -/
def PowerSound (s : State) : Prop :=
  (∀ k : Slot, (s.pow k).mainSupply = (s.slot k).state.mainOn
      ∧ (s.pow k).claim.isSome = (s.slot k).state.holdsClaim
      ∧ (s.pow k).monitoring = (s.slot k).state.monitored
      ∧ (s.pow k).rampTimer.isSome = ((s.slot k).state == .ramping)
      ∧ ((s.pow k).filter = true → (s.pow k).monitoring = true)
      ∧ (∀ c, (s.pow k).claim = some c → c.epoch = (s.slot k).epoch)
      ∧ (k ∈ s.power.waitList ↔ (s.slot k).state = .powerWait)
      ∧ (k ∈ s.power.rampQueue ↔ (s.slot k).state = .rampQueued)
      ∧ (s.power.arbiter = some k ↔ (s.slot k).state = .ramping))
    ∧ s.power.waitList.Nodup ∧ s.power.rampQueue.Nodup
    ∧ (s.power.arbiter = none → s.power.rampQueue = [])

/-- The presence phases against lines, timers and the slot records, as the table of R27 has it. -/
def PresenceSound (s : State) : Prop :=
  ∀ k : Slot,
    (s.pres k).auxSupply = (s.slot k).cardPresent
      ∧ match (s.pres k).phase with
        | .absent => (s.pres k).line = false ∧ (s.pres k).timer = .stopped ∧ (s.slot k).cardPresent = false
            ∧ ((s.slot k).state = .empty ∨ (s.slot k).state = .quarantined)
        | .inserting => (s.pres k).line = true ∧ (∃ d, (s.pres k).timer = .insertion d (s.slot k).epoch)
            ∧ (s.slot k).cardPresent = false ∧ ((s.slot k).state = .settling ∨ (s.slot k).state = .quarantined)
        | .seated => (s.pres k).line = true ∧ (s.pres k).timer = .stopped ∧ (s.slot k).cardPresent = true
            ∧ (s.slot k).state ≠ .empty ∧ (s.slot k).state ≠ .settling
        | .removing => (s.pres k).line = false ∧ (∃ d, (s.pres k).timer = .removal d)
            ∧ (s.slot k).cardPresent = true ∧ (s.slot k).state ≠ .empty ∧ (s.slot k).state ≠ .settling

/-- The counts and the optional fields of each slot record, as R2 and R9 have them. -/
def RecordsSound (s : State) : Prop :=
  ∀ k : Slot,
    (if (s.slot k).state = .quarantined then (s.slot k).faultRun = 3
      else if (s.slot k).state = .faulted then (s.slot k).faultRun = 1 ∨ (s.slot k).faultRun = 2
      else (s.slot k).faultRun ≤ 2)
      ∧ (s.slot k).cleanRun ≤ 4095
      ∧ ((s.slot k).faultReason.isSome = true ↔ (s.slot k).state = .faulted ∨ (s.slot k).state = .quarantined)
      ∧ ((s.slot k).cardCode.isSome = true ↔ (s.slot k).faultReason = some .cardRefused)
      ∧ ((s.slot k).parkReason = some .power ↔ (s.slot k).state = .powerWait)
      ∧ (((s.slot k).parkReason = some .image ∨ (s.slot k).parkReason = some .cycle) → (s.slot k).state = .mapWait)
      ∧ ((s.slot k).state.usesProfile = true → (s.slot k).profileIndex.isSome = true)
      ∧ (((s.slot k).state = .empty ∨ (s.slot k).state = .settling ∨ (s.slot k).state = .present
          ∨ (s.slot k).state = .identifying) → (s.slot k).profileIndex = none)

/-- The identity record's span (R2): absent with no card present, present from a match on. -/
def IdentitySound (s : State) : Prop :=
  ∀ k : Slot,
    ((s.slot k).cardPresent = false → (s.slot k).identity = none)
      ∧ ((s.slot k).state.usesProfile = true → (s.slot k).identity.isSome = true)

/-- The sequencer's service transactions of a slot, queued or in flight. -/
def sequencerWork (c : ServiceChannel) (k : Slot) : List Transaction :=
  (serviceWork c).filter fun x => x.origin == .sequencer && x.slot == k

/-- The service channel against the slot states: one IDENT READ for each slot in IDENTIFYING with the attempt's epoch
(R40), one download transaction for each slot in CONFIGURING, the one its download waits for (R89, R100), none for any
other; and a live segment has its transaction in flight (R90). -/
def ServiceSound (s : State) : Prop :=
  (∀ k : Slot,
    match (s.slot k).state with
    | .identifying => s.download k = none
        ∧ ∃ a x, s.attempt k = some a ∧ (1 ≤ a.number ∧ a.number ≤ 3) ∧ a.epoch = (s.slot k).epoch
            ∧ sequencerWork s.service k = [x] ∧ x.kind = .identRead ∧ x.epoch = a.epoch
    | .configuring => s.attempt k = none
        ∧ ∃ d x, s.download k = some d ∧ d.epoch = (s.slot k).epoch ∧ sequencerWork s.service k = [x]
            ∧ x.kind ≠ .identRead ∧ d.awaits x = true
    | _ => s.attempt k = none ∧ s.download k = none ∧ sequencerWork s.service k = [])
    ∧ passThroughKinds s.service
    ∧ ∀ g, s.service.segment = some g → g.live = true → s.service.inFlight.isSome = true

/-- A map holds an entry of the slot that bears the slot's current epoch. -/
def hasCurrentEntry (s : State) (es : List MapEntry) (k : Slot) : Prop :=
  ∃ e, entryOf es k = some e ∧ e.epoch = (s.slot k).epoch

/-- The maps and the map lists against the slot states: a RUNNING slot has its entry in the Active Map, and the same entry
in the Offered Map when one exists (R134, R139), a MAP_PENDING slot has one in the Offered Map (R137), and a slot in
MAP_WAIT stands by one ADD in the Change List or once in the Map Wait List (R129, R131). -/
def MapSlotsSound (s : State) : Prop :=
  ∀ k : Slot,
    ((s.slot k).state = .running →
        ∃ e, entryOf s.maps.active.entries k = some e ∧ e.epoch = (s.slot k).epoch
          ∧ ∀ m, s.maps.offered = some m → entryOf m.entries k = some e)
      ∧ ((s.slot k).state = .mapPending → ∃ m, s.maps.offered = some m ∧ hasCurrentEntry s m.entries k)
      ∧ s.maps.changes.count (.add k) + s.maps.waitList.count k = (if (s.slot k).state = .mapWait then 1 else 0)
      ∧ s.maps.changes.count (.drop k) ≤ 1
      ∧ (.drop k ∈ s.maps.changes → (s.slot k).state ≠ .running ∧ (s.slot k).state ≠ .mapPending)

/-- The buffers of the Cycle Engine have the lengths of the regions they serve (R146, R158): those of a slot RUNNING with
its entry's epoch, the bytes gathered by an exchange that is not cut off, and the outputs of a held frame (R148). -/
def BuffersSound (s : State) : Prop :=
  (∀ (k : Slot) (e : MapEntry), (s.slot k).state = .running → entryOf s.maps.active.entries k = some e →
      e.epoch = (s.slot k).epoch →
      (s.cyc k).lastOutput.length = regionLength e.output ∧ (s.cyc k).lastInput.length = regionLength e.input)
    ∧ (∀ x, s.cycle.exchange = some x → x.cut = false →
        (∀ a data diag, (a, WindowOutcome.good data diag) ∈ x.addressed.zip x.outcomes → data.length = a.inputLength)
          ∧ ∀ a ∈ x.addressed, (s.slot a.slot).state = .running → (s.slot a.slot).epoch = a.epoch →
              ∃ e, entryOf s.maps.active.entries a.slot = some e ∧ e.epoch = a.epoch
                ∧ a.inputLength = regionLength e.input)
    ∧ ∀ f, s.cycle.holder = some f →
        outputExtent (mapFor s.maps f.frameClass).entries ≤ f.output.length
          ∧ (f.frameClass = .offered → s.maps.offered.isSome = true)

/-! ## Withdrawal and fault entry -/

/-- A Reply Frame that answers a pass-through SLOT_LEFT (R108, R109). -/
def slotLeftReply (p : PassThrough) : ReplyFrame :=
  { tag := p.tag, code := if p.write then 113 else 112, result := .slotLeft, contents := [slotByte p.slot] }

/-- The other slots that a release of power may move: those that wait for a claim or for their ramp (R77, R80). -/
def mayRamp (s : State) (j : Slot) : Prop := j ∈ s.power.waitList ∨ j ∈ s.power.rampQueue

/-- The transmitter and what waits for it. -/
def upstream (m : Management) : Transmitter × List ReturnFrame × List ReplyFrame :=
  (m.transmitter, m.returnLine, m.replyQueue)

/-- The slots of a list with one slot left out. -/
def without (k : Slot) (ks : List Slot) : List Slot := ks.filter (· != k)

/-- What the Power Controller holds once it has taken from a slot all it held for it, before any re-evaluation (R85). -/
def powerGivenUp (k : Slot) (s : State) : State :=
  { s with power :=
      { slots := amend s.power.slots k fun r =>
          { mainSupply := false, claim := none, rampTimer := none, filter := false, monitoring := false
            powerGood := r.powerGood }
        waitList := without k s.power.waitList, rampQueue := without k s.power.rampQueue
        arbiter := if s.power.arbiter = some k then none else s.power.arbiter } }

/-- What stands after the withdrawal of a slot, or after its "card gone", in every block but the slot's own record and
its presence: what the slot held is given back (R8, R85, R97, R109, R130), and nothing else has changed but what the
release of its claim lets other slots do. -/
structure Withdrawn (k : Slot) (s t : State) : Prop where
  /-- The main supply is off, the claim gone, the ramp timer and the filter stopped, monitoring over (R85). -/
  power : t.pow k = { mainSupply := false, claim := none, rampTimer := none, filter := false, monitoring := false
                      powerGood := (s.pow k).powerGood }
  powerLists : k ∉ t.power.waitList ∧ k ∉ t.power.rampQueue ∧ t.power.arbiter ≠ some k
  /-- With no claim released, the Power Controller does nothing more than take the slot from its lists. -/
  noRelease : (s.pow k).claim = none →
    t.power.waitList = without k s.power.waitList ∧ t.power.rampQueue = without k s.power.rampQueue
      ∧ ∀ j, j ≠ k → t.pow j = s.pow j ∧ t.slot j = s.slot j
  /-- A claim released re-evaluates the Power Wait List, and a free arbiter then starts the oldest slot of the Ramp Queue
  (R77, R80, R82, R85). -/
  release : (s.pow k).claim.isSome = true →
    t.power = (reevaluateClaims (powerGivenUp k s)).power
      ∧ ∀ j, j ≠ k → t.slot j = (reevaluateClaims (powerGivenUp k s)).slot j
  /-- No claim of another slot is lost, and a slot that waits neither for a claim nor for a ramp is untouched. -/
  otherPower : ∀ j, j ≠ k →
    (j ∉ s.power.waitList → (t.pow j).claim = (s.pow j).claim) ∧ (¬ mayRamp s j → t.pow j = s.pow j)
      ∧ (s.power.arbiter = some j → t.power.arbiter = some j)
  otherSlots : ∀ j, j ≠ k →
    (∃ x r, t.slot j = { s.slot j with state := x, parkReason := r }) ∧ (¬ mayRamp s j → t.slot j = s.slot j)
  attempt : t.attempt k = none ∧ ∀ j, j ≠ k → t.attempt j = s.attempt j
  download : t.download k = none ∧ ∀ j, j ≠ k → t.download j = s.download j
  /-- Its transactions are gone, queued or in flight; a segment under way stays on the backplane (R97). -/
  service : t.service.queue = s.service.queue.filter (·.slot != k)
    ∧ t.service.inFlight = s.service.inFlight.filter (·.slot != k)
    ∧ t.service.segment = (if s.service.inFlight.any (·.slot == k)
        then s.service.segment.map fun g => { g with live := false } else s.service.segment)
  /-- Its pass-throughs are answered SLOT_LEFT (R109), in the order of acceptance (the model's choice, log 12). -/
  outstanding : t.mgmt.outstanding = s.mgmt.outstanding.filter (·.slot != k)
  replies : upstream t.mgmt
    = upstream (((s.mgmt.outstanding.filter (·.slot == k)).map slotLeftReply).foldl (fun u r => postReply r u) s).mgmt
  /-- Its ADD and its place in the Map Wait List are gone, and a DROP joins when the newest map holds its entry and no
  DROP is queued (R130). Neither map changes. -/
  mapLists : t.maps.waitList = without k s.maps.waitList
    ∧ t.maps.changes = s.maps.changes.filter (· != .add k)
        ++ (if (∃ e ∈ (s.maps.offered.getD s.maps.active).entries, e.slot = k) ∧ Change.drop k ∉ s.maps.changes
            then [.drop k] else [])
  maps : t.maps.active = s.maps.active ∧ t.maps.offered = s.maps.offered ∧ t.maps.recheck = s.maps.recheck
  /-- No notice of another subject is lost or changed, but those of slots that the release moves. -/
  notices : ∀ n ∈ s.mgmt.notices, (∀ j, subjectOf n.body = .slot j → j ≠ k ∧ ¬ mayRamp s j) → n ∈ t.mgmt.notices
  /-- The notices of every other subject stand as they stood, or as the release leaves them (R77, R80, R181). -/
  otherNotices : t.mgmt.notices.filter (fun n => subjectOf n.body != .slot k)
    = (if (s.pow k).claim.isSome then reevaluateClaims (powerGivenUp k s) else s).mgmt.notices.filter
        (fun n => subjectOf n.body != .slot k)
  tables : t.library = s.library ∧ t.matcher.rules = s.matcher.rules
    ∧ t.matcher.defaultAction = s.matcher.defaultAction ∧ t.settings = s.settings
    ∧ t.mgmt.counters = s.mgmt.counters ∧ t.mgmt.receiver = s.mgmt.receiver
  waiting : t.pending = s.pending

/-- What stands after fault entry (R9): the slot is withdrawn, its fault recorded and counted, its notice posted. -/
structure FaultEntered (k : Slot) (reason : FaultReason) (code : Option Byte) (s t : State) : Prop where
  withdrawn : Withdrawn k s t
  record : t.slot k =
    { s.slot k with
      state := if 3 ≤ (s.slot k).faultRun + 1 then .quarantined else .faulted
      parkReason := none, faultReason := some reason, cardCode := if reason = .cardRefused then code else none
      faultRun := (s.slot k).faultRun + 1, cleanRun := 0 }
  presence : t.presence = s.presence
  cycle : t.cycle = s.cycle
  notice : ∃ n ∈ t.mgmt.notices,
    n.body = .slot k (t.slot k).state (s.slot k).epoch (some reason) (s.cyc k).cardDiag

/-! ## Grants -/

/-- The slots of a list that a re-evaluation grants, oldest first: each one whose draw fits beside the claims held and
the draws granted before it (R77). -/
def grantOrder (draw : Slot → Nat) (budget : Nat) : Nat → List Slot → List Slot
  | _, [] => []
  | sum, k :: rest =>
    if sum + draw k ≤ budget then k :: grantOrder draw budget (sum + draw k) rest
    else grantOrder draw budget sum rest

/-! ## Segments and exchanges that end -/

/-- The state with the backplane released by a segment and its transaction out of flight. -/
def segmentOver (s : State) : State := s.modService fun c => { c with segment := none, inFlight := none }

/-- A live segment of a transaction in flight is on the backplane. -/
def segmentRuns (s : State) (g : Segment) (x : Transaction) : Prop :=
  s.service.segment = some g ∧ g.live = true ∧ s.service.inFlight = some x

/-- The slots that an exchange started now addresses: RUNNING, with an entry of the Active Map that bears the current
epoch, in slot order (R152). -/
def addressedSlots (s : State) : List Slot :=
  allSlots.filter fun k =>
    (s.slot k).state == .running && (entryOf s.maps.active.entries k).any fun e => e.epoch == (s.slot k).epoch

/-- The slots whose entries the DROPs of a build take from the Active Map, in slot order (R134, R137). -/
def dropsOf (s : State) : List Slot :=
  allSlots.filter fun k => decide (Change.drop k ∈ s.maps.changes) && s.maps.active.entries.any fun e => e.slot == k

/-- The slots that a build tries, in its order: the Map Wait List, then the ADDs of the Change List (R135, R136). -/
def triedSlots (s : State) : List Slot :=
  s.maps.waitList ++ s.maps.changes.filterMap fun c => match c with
    | .add k => some k
    | .drop _ => none

/-- The tries of a build in their order (R135, R136): each slot is tried against the map being built as the DROPs and the
tries before it have left it. Answers the map at the end, in slot order, and each slot's outcome. -/
def buildTries (s : State) : List MapEntry → List Slot → List MapEntry × List (Slot × Placement)
  | es, [] => (es, [])
  | es, k :: rest =>
    match tryPlace s es k with
    | .placed e =>
      let later := buildTries s (es.filter (·.slot < k) ++ [e] ++ es.filter (k < ·.slot)) rest
      (later.1, (k, .placed e) :: later.2)
    | .parked reason =>
      let later := buildTries s es rest
      (later.1, (k, .parked reason) :: later.2)

/-! ## Requests -/

/-- The tag, the request code and the argument bytes of a request command. -/
def requestOf : Instr → Option (Byte × Byte × List Byte)
  | .unknownRequest tag code args => some (tag, code, args)
  | .noticeFetch tag args => some (tag, 1, args)
  | .slotMode tag args => some (tag, 16, args)
  | .slotStart tag args => some (tag, 17, args)
  | .slotStop tag args => some (tag, 18, args)
  | .slotClear tag args => some (tag, 19, args)
  | .slotRead tag args => some (tag, 20, args)
  | .profileLoad tag args => some (tag, 32, args)
  | .profileDrop tag args => some (tag, 33, args)
  | .profilePurge tag args => some (tag, 34, args)
  | .profileRead tag args => some (tag, 35, args)
  | .ruleWrite tag args => some (tag, 48, args)
  | .ruleRead tag args => some (tag, 49, args)
  | .ruleDefault tag args => some (tag, 50, args)
  | .storeWrite tag args => some (tag, 64, args)
  | .storeRead tag args => some (tag, 65, args)
  | .rackSet tag args => some (tag, 80, args)
  | .rackRead tag args => some (tag, 81, args)
  | .mapRead tag args => some (tag, 96, args)
  | .cardRead tag args => some (tag, 112, args)
  | .cardWrite tag args => some (tag, 113, args)
  | .restart tag args => some (tag, 128, args)
  | .coldReset => none
  | .presenceLineAsserted _ => none
  | .presenceLineDeasserted _ => none
  | .insertionDebounceExpiry _ => none
  | .removalDebounceExpiry _ => none
  | .segmentStart => none
  | .segmentResponseTimeout => none
  | .segmentEnd _ => none
  | .rampEnd _ => none
  | .powerGoodDeasserted _ => none
  | .powerGoodAsserted _ => none
  | .powerGoodFilterExpiry _ => none
  | .configurationTimeout _ => none
  | .build => none
  | .cycleFrame _ => none
  | .frameServiceStart => none
  | .responseWindowClose _ _ => none
  | .exchangeEnd => none
  | .cycleWatchdogExpiry => none
  | .safeExchangeTimerExpiry => none
  | .safeExchangeStart => none
  | .badCrcFrame => none
  | .upstreamFrameEnd => none

/-- The number of argument bytes that the table of R191 gives a request of this code with these bytes; `none` where the
bytes end before the count that decides it, and for a code that names no request. -/
def argumentBytes (code : Byte) (args : List Byte) : Option Nat :=
  match code.toNat with
  | 1 => some 0
  | 16 => some 2
  | 17 => some 1
  | 18 => some 1
  | 19 => some 1
  | 20 => some 1
  | 32 => args[14]?.map fun n => 15 + 5 * n.toNat
  | 33 => some 2
  | 34 => some 0
  | 35 => some 1
  | 48 => some 15
  | 49 => some 1
  | 50 => some 2
  | 64 => args[2]?.map fun n => 3 + n.toNat
  | 65 => some 3
  | 80 => some 14
  | 81 => some 1
  | 96 => some 1
  | 112 => some 3
  | 113 => args[2]?.map fun n => 3 + n.toNat
  | 128 => some 0
  | _ => none

/-- A place of the Reply Queue is free (R175). -/
def placeFree (s : State) : Prop := placesTaken s.mgmt < 8

end Sys2Proof.Machine
end

