-- ==== Sys2Proof/Certificates/Slice0/Obligations.lean ====
section
/-!
DEFINITION. The statements for the provers. Each is about the commands of the coupler as Machine/Dispatch.lean gives them
meaning; a statement that rests on a choice of the model names its log entry.
-/

section Statements

open Sys2Proof Sys2Proof.Machine

/-! ## The step, the queue and reset -/

/-- A step takes the command at the front of the queue and runs it with the rest waiting; with no command waiting the
coupler idles. The queue is the model's choice (log 1). -/
def Obligations.StepRunsFrontCommand : Prop :=
  (∀ (c : Instr) (s : State), step { s with pending := c :: s.pending } = exec c s)
    ∧ ∀ s : State, s.pending = [] → step s = .next s

/-- Every command, well formed or not, in every state, answers a next state, and leaves the queue to the step (the
model's choice of a queue, log 1). -/
def Obligations.CommandsCompleteAndKeepQueue : Prop :=
  ∀ (c : Instr) (s : State), ∃ t, exec c s = .next t ∧ t.pending = s.pending

/-- The values the spec states for a cold reset (R25, R37, R56, R57, R69, R86, R99, R110, R144, R167, R170, R176, R179,
R183). The levels of the presence and power-good pins are not among them. -/
def Obligations.ResetValuesOfEveryBlock : Prop :=
  let s := State.reset
  (∀ k : Slot,
    s.slot k = { state := .empty, mode := .auto, cardPresent := false, epoch := 0, identity := none
                 profileIndex := none, parkReason := none, faultReason := none, cardCode := none, faultRun := 0
                 cleanRun := 0 }
      ∧ (s.pres k).phase = .absent ∧ (s.pres k).timer = .stopped ∧ (s.pres k).auxSupply = false
      ∧ s.attempt k = none ∧ s.download k = none
      ∧ (s.pow k).mainSupply = false ∧ (s.pow k).claim = none ∧ (s.pow k).rampTimer = none
      ∧ (s.pow k).filter = false ∧ (s.pow k).monitoring = false
      ∧ (s.cyc k).missCount = 0 ∧ (s.cyc k).inputValid = false ∧ (s.cyc k).cardDiag = false)
    ∧ (∀ i : RuleIndex, look s.matcher.rules i =
        { enabled := false, field := .vendor, operator := .equal, mask := 0, value := 0, chain := false
          action := .reject, profile := 0 })
    ∧ s.matcher.defaultAction = .reject
    ∧ (∀ i : ProfileIndex, s.profile i =
        { valid := false, locked := false, powerDraw := 1, rampTime := 1, configTimeout := 10, outputLength := 0
          inputLength := 0, alignment := 1, safeMode := .zero, patternOffset := none, records := [] })
    ∧ (∀ o, s.library.store.read o = 0)
    ∧ s.power.waitList = [] ∧ s.power.rampQueue = [] ∧ s.power.arbiter = none
    ∧ s.service.queue = [] ∧ s.service.inFlight = none ∧ s.service.segment = none ∧ s.cycle.exchange = none
    ∧ s.maps = { active := { generation := 1, entries := [] }, offered := none, changes := [], waitList := []
                 recheck := false }
    ∧ s.cycle.rackState = .idle ∧ s.cycle.holder = none ∧ s.cycle.lastCount = none ∧ s.cycle.watchdog = none
    ∧ s.cycle.safeTimer = none ∧ s.cycle.safeDue = false
    ∧ s.settings = { rate := .mbit25, period := 1000, reserve := 200, budget := 0, admission := .closed
                     missLimit := 3, rampGrace := 2, watchdog := 4, insertionDebounce := 100, removalDebounce := 5 }
    ∧ s.mgmt.counters = { badCrc := 0, malformed := 0, mismatch := 0, short := 0, overlap := 0, long := 0, dropped := 0 }
    ∧ s.mgmt.notices = [] ∧ s.mgmt.transmitter = .idle ∧ s.mgmt.returnLine = [] ∧ s.mgmt.replyQueue = []
    ∧ s.mgmt.outstanding = [] ∧ s.mgmt.receiver = none

/-! ## Invariants that every step keeps -/

/-- The reset state is sound in every block. That every presence line is deasserted there is the model's choice (log 5). -/
def Obligations.ResetStateIsSound : Prop :=
  TablesSound State.reset ∧ MapsSound State.reset ∧ HeadLinkSound State.reset ∧ CycleSound State.reset
    ∧ PowerSound State.reset ∧ PresenceSound State.reset ∧ RecordsSound State.reset ∧ ServiceSound State.reset
    ∧ IdentitySound State.reset ∧ MapSlotsSound State.reset ∧ BuffersSound State.reset

/-- Settings, profiles and store stay legal: the ranges of R57 to R59 and R176, the reserve's minimum of R121, and the
store's canonical form. -/
def Obligations.StepKeepsTablesSound : Prop :=
  ∀ s t : State, TablesSound s → step s = .next t → TablesSound t

/-- Both maps stay sound, and go on fitting the cycle with the settings in force, and their generations follow one another
(R111, R113, R118, R127). -/
def Obligations.StepKeepsMapsSound : Prop :=
  ∀ s t : State, MapsSound s → step s = .next t → MapsSound t

/-- The Notice Queue, the Return line, the Reply Queue's places and the outstanding accesses stay within their bounds, and
the outstanding accesses stay those of the service channel's pass-through transactions (R89, R106, R172, R175, R181). -/
def Obligations.StepKeepsHeadLinkSound : Prop :=
  ∀ s t : State, HeadLinkSound s → step s = .next t → HeadLinkSound t

/-- The timers of each rack state, the single user of the backplane and the miss counts stay as chapter 9 has them (R95,
R146, R147, R156). -/
def Obligations.StepKeepsCycleSound : Prop :=
  ∀ s t : State, TablesSound s → CycleSound s → step s = .next t → CycleSound t

/-- Main supply, claim, monitoring, ramp timer, both lists and the arbiter stay those of the slot states (R4, R73, R76,
R79, R80, R83). -/
def Obligations.StepKeepsPowerSound : Prop :=
  ∀ s t : State, PowerSound s → step s = .next t → PowerSound t

/-- Phase, line, timer, auxiliary supply, card present and slot state keep the correspondence of R27. -/
def Obligations.StepKeepsPresenceSound : Prop :=
  ∀ s t : State, PowerSound s → PresenceSound s → step s = .next t → PresenceSound t

/-- The counts and the optional fields of the slot records stay those of the slot states (R2, R9, R11), the identity
record's among them: absent with no card present, present from a match on (R2). -/
def Obligations.StepKeepsRecordsSound : Prop :=
  (∀ s t : State, PowerSound s → RecordsSound s → step s = .next t → RecordsSound t)
    ∧ ∀ s t : State, PowerSound s → PresenceSound s → ServiceSound s → IdentitySound s → step s = .next t →
        IdentitySound t

/-- Each slot in IDENTIFYING keeps one IDENT READ and its attempt record, each slot in CONFIGURING one download and the
transaction it waits for, every other slot none (R40, R89, R90, R100). -/
def Obligations.StepKeepsServiceSound : Prop :=
  ∀ s t : State, PowerSound s → ServiceSound s → step s = .next t → ServiceSound t

/-- A slot is RUNNING only while the Active Map holds its entry with its current epoch, which an Offered Map then holds
unchanged, and MAP_PENDING only while the Offered Map holds one; a slot in MAP_WAIT keeps one place in the Change List or
the Map Wait List (R129, R131, R134, R137, R139). -/
def Obligations.StepKeepsMapSlotsSound : Prop :=
  ∀ s t : State, PowerSound s → MapSlotsSound s → step s = .next t → MapSlotsSound t

/-- A step that grants a claim leaves the sum of all claims within the budget in force (R75, R77). -/
def Obligations.GrantsStayWithinBudget : Prop :=
  ∀ s t : State, PowerSound s → step s = .next t →
    (∃ k : Slot, (s.pow k).claim = none ∧ (t.pow k).claim.isSome = true) → sumOfClaims t ≤ t.settings.budget

/-! ## Presence -/

/-- PRESENCE_LINE_ASSERTED and PRESENCE_LINE_DEASSERTED in every phase (R29, R30, R32): nothing but what is shown
changes. That a line seen at the level it already has (asserted in INSERTING or SEATED, deasserted in ABSENT or REMOVING)
changes nothing else is the model's choice (log 2). -/
def Obligations.PresenceLineMovesPhase : Prop :=
  ∀ (k : Slot) (s : State),
    ((s.pres k).phase = .absent → (s.slot k).state = .empty →
      exec (.presenceLineAsserted k) s = .next
        { s with
          presence := amend s.presence k fun r =>
            { r with phase := .inserting, line := true
                     timer := .insertion s.settings.insertionDebounce (s.slot k).epoch }
          slots := amend s.slots k fun r => { r with state := .settling }
          mgmt := { s.mgmt with
            notices := queueNotice (.slot k .settling (s.slot k).epoch none (s.cyc k).cardDiag) s.mgmt.notices } })
    ∧ ((s.pres k).phase = .absent → (s.slot k).state ≠ .empty →
      exec (.presenceLineAsserted k) s = .next
        { s with
          presence := amend s.presence k fun r =>
            { r with phase := .inserting, line := true
                     timer := .insertion s.settings.insertionDebounce (s.slot k).epoch } })
    ∧ ((s.pres k).phase = .removing →
      exec (.presenceLineAsserted k) s = .next
        { s with presence := amend s.presence k fun r => { r with phase := .seated, timer := .stopped, line := true } })
    ∧ ((s.pres k).phase = .inserting ∨ (s.pres k).phase = .seated →
      exec (.presenceLineAsserted k) s = .next
        { s with presence := amend s.presence k fun r => { r with line := true } })
    ∧ ((s.pres k).phase = .inserting →
      exec (.presenceLineDeasserted k) s = .next
        { s with
          presence := amend s.presence k fun r => { r with phase := .absent, timer := .stopped, line := false }
          slots := amend s.slots k fun r => { r with state := if r.state = .settling then .empty else r.state } })
    ∧ ((s.pres k).phase = .seated →
      exec (.presenceLineDeasserted k) s = .next
        { s with
          presence := amend s.presence k fun r =>
            { r with phase := .removing, line := false, timer := .removal s.settings.removalDebounce } })
    ∧ ((s.pres k).phase = .absent ∨ (s.pres k).phase = .removing →
      exec (.presenceLineDeasserted k) s = .next
        { s with presence := amend s.presence k fun r => { r with line := false } })

/-- INSERTION_DEBOUNCE_EXPIRY with the epoch current (R31): a settled card moves its slot to PRESENT and, through an open
gate, to IDENTIFYING (R6, R15, R40); in QUARANTINED the state stays. -/
def Obligations.InsertionSettlesCard : Prop :=
  ∀ (k : Slot) (s : State) (d : Nat),
    (s.pres k).timer = .insertion d (s.slot k).epoch →
    ((s.slot k).state = .settling → ¬ ((s.slot k).mode = .auto ∧ s.settings.admission = .opened) →
      exec (.insertionDebounceExpiry k) s = .next
        { s with
          presence := amend s.presence k fun r => { r with phase := .seated, timer := .stopped, auxSupply := true }
          slots := amend s.slots k fun r => { r with epoch := r.epoch + 1, cardPresent := true, state := .present }
          mgmt := { s.mgmt with
            notices := queueNotice (.slot k .present ((s.slot k).epoch + 1) none (s.cyc k).cardDiag)
              s.mgmt.notices } })
    ∧ ((s.slot k).state = .settling → (s.slot k).mode = .auto → s.settings.admission = .opened →
      exec (.insertionDebounceExpiry k) s = .next
        { s with
          presence := amend s.presence k fun r => { r with phase := .seated, timer := .stopped, auxSupply := true }
          slots := amend s.slots k fun r => { r with epoch := r.epoch + 1, cardPresent := true, state := .identifying }
          matcher := { s.matcher with
            attempts := amend s.matcher.attempts k fun _ => some ⟨(s.slot k).epoch + 1, 1⟩ }
          service := { s.service with queue := s.service.queue ++ [identRead k ((s.slot k).epoch + 1)] }
          mgmt := { s.mgmt with
            notices := queueNotice (.slot k .identifying ((s.slot k).epoch + 1) none (s.cyc k).cardDiag)
              (queueNotice (.slot k .present ((s.slot k).epoch + 1) none (s.cyc k).cardDiag) s.mgmt.notices) } })
    ∧ ((s.slot k).state = .quarantined →
      exec (.insertionDebounceExpiry k) s = .next
        { s with
          presence := amend s.presence k fun r => { r with phase := .seated, timer := .stopped, auxSupply := true }
          slots := amend s.slots k fun r => { r with epoch := r.epoch + 1, cardPresent := true } })

/-- REMOVAL_DEBOUNCE_EXPIRY in PRESENT through QUARANTINED (R33 to R36): the phase is ABSENT, the auxiliary supply off,
the record emptied but for QUARANTINED, and every block gives back what it held, a released claim re-evaluating the
Power Wait List. That the SLOT_LEFT replies of a RUNNING slot go out in the order of acceptance is the model's choice
(log 12). -/
def Obligations.RemovalEmptiesSlot : Prop :=
  ∀ (k : Slot) (s : State) (d : Nat),
    (s.pres k).timer = .removal d → (s.slot k).state ≠ .empty → (s.slot k).state ≠ .settling →
    ∃ t, exec (.removalDebounceExpiry k) s = .next t ∧ Withdrawn k s t
      ∧ t.presence = amend s.presence k (fun r => { r with phase := .absent, timer := .stopped, auxSupply := false })
      ∧ t.cycle = s.cycle
      ∧ ((s.slot k).state ≠ .quarantined →
          t.slot k = { s.slot k with state := .empty, cardPresent := false, identity := none, profileIndex := none
                                     parkReason := none, faultReason := none, cardCode := none }
            ∧ ∃ n ∈ t.mgmt.notices, n.body = .slot k .empty (s.slot k).epoch none (s.cyc k).cardDiag)
      ∧ ((s.slot k).state = .quarantined →
          t.slot k = { s.slot k with cardPresent := false, identity := none, profileIndex := none, parkReason := none }
            ∧ ∀ n : Notice, subjectOf n.body = .slot k → (n ∈ t.mgmt.notices ↔ n ∈ s.mgmt.notices))

/-! ## Main power -/

/-- RAMP_END with power-good asserted in RAMPING, the claim's epoch current (R5, R73, R81, R83, R100): the slot enters
CONFIGURING, monitored, its download created and the first transaction queued; then the arbiter starts the oldest slot of
the Ramp Queue, if any (R80), each move with its notice (R7), and nothing else changes. In another state, or with another
epoch, the report is discarded, whatever the level of power-good: no slot record changes but that of a slot whose ramp
starts (R5); that the ramp is then over all the same is the model's reading (log 34). -/
def Obligations.GoodRampStartsDownload : Prop :=
  (∀ (k : Slot) (s : State) (p : ProfileIndex) (c : Claim),
    (s.pow k).rampTimer.isSome = true → (s.pow k).powerGood = true → (s.slot k).profileIndex = some p →
    (s.slot k).state = .ramping → (s.pow k).claim = some c → c.epoch = (s.slot k).epoch →
    k ∉ s.power.rampQueue →
    let noticed := queueNotice (.slot k .configuring (s.slot k).epoch none (s.cyc k).cardDiag) s.mgmt.notices
    ∃ t d x, exec (.rampEnd k) s = .next t
      ∧ t.slot k = { s.slot k with state := .configuring }
      ∧ t.pow k = { s.pow k with rampTimer := none, monitoring := true, filter := false }
      ∧ t.download k = some d ∧ d.epoch = (s.slot k).epoch ∧ d.profile = p ∧ d.timeout = (s.profile p).configTimeout
      ∧ t.service.queue = s.service.queue ++ [x] ∧ x.slot = k ∧ x.epoch = (s.slot k).epoch ∧ x.origin = .sequencer
      ∧ x.position = 0 ∧ x.repeatUsed = false
      ∧ ((s.profile p).records = [] → d.step = .commit ∧ x.kind = .paramCommit ∧ x.totalLength = 0)
      ∧ (∀ r rest, (s.profile p).records = r :: rest →
          d.step = .record 1 ∧ x.kind = .paramWrite ∧ x.parameter = some r.parameter ∧ x.totalLength = r.length
            ∧ x.source = some (.storeRange r.offset r.length))
      ∧ (s.power.rampQueue = [] → t.power.arbiter = none ∧ t.power.rampQueue = []
          ∧ ∀ j, j ≠ k → t.slot j = s.slot j ∧ t.pow j = s.pow j)
      ∧ (∀ j rest, s.power.rampQueue = j :: rest →
          t.power.arbiter = some j ∧ t.power.rampQueue = rest ∧ t.slot j = { s.slot j with state := .ramping }
            ∧ t.pow j = { s.pow j with mainSupply := true, rampTimer := some (s.profileOf j).rampTime }
            ∧ ∀ i, i ≠ k → i ≠ j → t.slot i = s.slot i ∧ t.pow i = s.pow i)
      ∧ t.power.waitList = s.power.waitList ∧ t.service.inFlight = s.service.inFlight
      ∧ t.service.segment = s.service.segment ∧ (∀ j, j ≠ k → t.download j = s.download j)
      ∧ t.presence = s.presence ∧ t.matcher = s.matcher ∧ t.library = s.library ∧ t.maps = s.maps ∧ t.cycle = s.cycle
      ∧ (s.power.rampQueue = [] → t.mgmt = { s.mgmt with notices := noticed })
      ∧ (∀ j rest, s.power.rampQueue = j :: rest → t.mgmt = { s.mgmt with
          notices := queueNotice (.slot j .ramping (s.slot j).epoch none (s.cyc j).cardDiag) noticed })
      ∧ t.pending = s.pending)
  ∧ ∀ (k : Slot) (s : State), (s.pow k).rampTimer.isSome = true →
    ((s.slot k).state ≠ .ramping ∨ ∀ c, (s.pow k).claim = some c → c.epoch ≠ (s.slot k).epoch) →
    let ended := { s with
      power := { s.power with
        slots := amend s.power.slots k fun r => { r with rampTimer := none }
        arbiter := if s.power.arbiter = some k then none else s.power.arbiter } }
    ((s.power.rampQueue = [] ∨ ended.power.arbiter ≠ none) → exec (.rampEnd k) s = .next ended)
    ∧ (∀ j rest, s.power.rampQueue = j :: rest → ended.power.arbiter = none → exec (.rampEnd k) s = .next
        { ended with
          slots := amend s.slots j fun r => { r with state := .ramping }
          power :=
            { slots := amend ended.power.slots j fun r =>
                { r with mainSupply := true, rampTimer := some (s.profileOf j).rampTime }
              waitList := s.power.waitList, rampQueue := rest, arbiter := some j }
          mgmt := { s.mgmt with
            notices := queueNotice (.slot j .ramping (s.slot j).epoch none (s.cyc j).cardDiag) s.mgmt.notices } })

/-- RAMP_END with power-good deasserted, POWER_GOOD_FILTER_EXPIRY and CONFIGURATION_TIMEOUT take the slot through fault entry
with POWER_FAIL, POWER_LOST and CONFIG_TIMEOUT (R9, R81, R83, R104); POWER_GOOD_DEASSERTED and POWER_GOOD_ASSERTED start and stop
the filter of a monitored slot alone (R83). That the SLOT_LEFT replies of a RUNNING slot go out in the order of acceptance is the
model's choice (log 12). -/
def Obligations.SupplyFaultsAndFilter : Prop :=
  (∀ (k : Slot) (s : State),
     (∀ c, (s.pow k).rampTimer.isSome = true → (s.pow k).powerGood = false → (s.slot k).state = .ramping →
       (s.pow k).claim = some c → c.epoch = (s.slot k).epoch →
       ∃ t, exec (.rampEnd k) s = .next t ∧ FaultEntered k .powerFail none s t)
     ∧ (∀ c, (s.pow k).filter = true → (s.slot k).state.monitored = true →
       (s.pow k).claim = some c → c.epoch = (s.slot k).epoch →
       ∃ t, exec (.powerGoodFilterExpiry k) s = .next t ∧ FaultEntered k .powerLost none s t)
     ∧ (∀ d, s.download k = some d → d.epoch = (s.slot k).epoch → (s.slot k).state = .configuring →
       ∃ t, exec (.configurationTimeout k) s = .next t ∧ FaultEntered k .configTimeout none s t))
  ∧ (∀ (k : Slot) (s : State),
       exec (.powerGoodDeasserted k) s = .next
         { s with power := { s.power with
             slots := amend s.power.slots k fun r =>
               { r with powerGood := false, filter := if r.monitoring then true else r.filter } } }
       ∧ exec (.powerGoodAsserted k) s = .next
         { s with power := { s.power with
             slots := amend s.power.slots k fun r =>
               { r with powerGood := true, filter := if r.monitoring then false else r.filter } } })

/-- A re-evaluation of the Power Wait List grants, oldest first, each slot whose draw fits beside the claims held and those
granted before it; the others keep their places, and a free arbiter then starts the oldest of the Ramp Queue (R77, R80), each move
with its notice (R7). Nothing else changes. -/
def Obligations.ReevaluationGrantsOldestFirst : Prop :=
  ∀ s : State, s.power.waitList.Nodup → (∀ k ∈ s.power.waitList, (s.pow k).claim = none) →
    let granted := grantOrder (fun k => (s.profileOf k).powerDraw) s.settings.budget (sumOfClaims s) s.power.waitList
    let t := reevaluateClaims s
    let starts := fun k => s.power.arbiter = none ∧ (s.power.rampQueue ++ granted).head? = some k
    let noticed := granted.foldl
      (fun queued k => queueNotice (.slot k .rampQueued (s.slot k).epoch none (s.cyc k).cardDiag) queued) s.mgmt.notices
    t.power.waitList = s.power.waitList.filter (fun k => !granted.contains k)
      ∧ (∀ k, t.pow k = { s.pow k with
          claim := if k ∈ granted then some ⟨(s.profileOf k).powerDraw, (s.slot k).epoch⟩ else (s.pow k).claim
          mainSupply := if starts k then true else (s.pow k).mainSupply
          rampTimer := if starts k then some (s.profileOf k).rampTime else (s.pow k).rampTimer })
      ∧ (∀ k, t.slot k = { s.slot k with
          state := if starts k then .ramping else if k ∈ granted then .rampQueued else (s.slot k).state
          parkReason := if k ∈ granted then none else (s.slot k).parkReason })
      ∧ (s.power.arbiter.isSome = true → t.power.arbiter = s.power.arbiter
          ∧ t.power.rampQueue = s.power.rampQueue ++ granted)
      ∧ (s.power.arbiter = none → s.power.rampQueue ++ granted = [] → t.power.arbiter = none ∧ t.power.rampQueue = [])
      ∧ (∀ j rest, s.power.arbiter = none → s.power.rampQueue ++ granted = j :: rest →
          t.power.arbiter = some j ∧ t.power.rampQueue = rest)
      ∧ ((s.power.arbiter.isSome = true ∨ s.power.rampQueue ++ granted = []) →
          t.mgmt = { s.mgmt with notices := noticed })
      ∧ (∀ j rest, s.power.arbiter = none → s.power.rampQueue ++ granted = j :: rest → t.mgmt = { s.mgmt with
          notices := queueNotice (.slot j .ramping (s.slot j).epoch none (s.cyc j).cardDiag) noticed })
      ∧ t.presence = s.presence ∧ t.matcher = s.matcher ∧ t.library = s.library ∧ t.service = s.service
      ∧ t.maps = s.maps ∧ t.cycle = s.cycle ∧ t.pending = s.pending

/-! ## The service channel and identification -/

/-- SEGMENT_START on a free backplane sends the segment at the position of the transaction in flight, else of the oldest
queued one: header, data read as it is sent, CRC-16 (R61, R90, R91, R95, R96, R202). SEGMENT_RESPONSE_TIMEOUT makes the
outcome of the segment NO_ANSWER (R92). That SEGMENT_START with nothing to send or on a busy backplane, and
SEGMENT_RESPONSE_TIMEOUT with no segment, change nothing is the model's choice (log 2). -/
def Obligations.SegmentStartSendsNextSegment : Prop :=
  ∀ s : State,
    (∀ (x : Transaction) (q : List Transaction), freeForSegment s = true →
      ((s.service.inFlight = some x ∧ s.service.queue = q) ∨ (s.service.inFlight = none ∧ s.service.queue = x :: q)) →
      let n := min 64 (x.totalLength - x.position)
      let data := match x.source with
        | some (.storeRange o _) => (List.range n).map fun i => s.library.store.read (o + x.position + i)
        | some (.carried bytes) => (bytes.drop x.position).take n
        | none => []
      let head := [slotByte x.slot, byteOf (serviceKindCode x.kind + (if x.totalLength ≤ x.position + 64 then 128 else 0)),
        x.parameter.getD 0] ++ be16 x.position ++ [byteOf n]
      exec .segmentStart s = .next
        { s with
          service := { s.service with
            queue := q, inFlight := some x
            segment := some { live := true, timedOut := false, bitTime := s.settings.rate.bitTime
                              telegram := head ++ data ++ half16 (crc16 (head ++ data)) } } })
    ∧ (freeForSegment s = false ∨ (s.service.inFlight = none ∧ s.service.queue = []) → exec .segmentStart s = .next s)
    ∧ (∀ g : Segment, s.service.segment = some g →
      exec .segmentResponseTimeout s = .next
        { s with service := { s.service with segment := some { g with timedOut := true } } })
    ∧ (s.service.segment = none → exec .segmentResponseTimeout s = .next s)

/-- What a segment's end is classified as (R92, R93, R203), for an answer with the bytes its header names and for one cut
short, which is CRC_ERROR (the model's reading, log 29). -/
def Obligations.AnswerClassified : Prop :=
  ∀ (g : Segment) (x : Transaction),
    (g.timedOut = true → ∀ answer, segmentOutcome g x answer = .noAnswer)
    ∧ (g.timedOut = false → ∀ (slot result code p1 p0 r : Byte) (data crc extra : List Byte),
      data.length = r.toNat → crc.length = 2 →
      let answer := [slot, result, code, p1, p0, r] ++ data ++ crc ++ extra
      let good := crc = half16 (crc16 ([slot, result, code, p1, p0, r] ++ data)) ∧ slot = slotByte x.slot
        ∧ (result = 1 ∨ result = 2 ∨ result = 3) ∧ (result = 2 → code ≠ 0) ∧ r.toNat ≤ 64
      let expected := if x.kind = .paramRead then min 64 (x.totalLength - x.position) else 0
      (¬ good → segmentOutcome g x answer = .crcError)
      ∧ (good → result = 3 → segmentOutcome g x answer = .answered .busy)
      ∧ (good → result = 2 → segmentOutcome g x answer = .answered (.refuse code))
      ∧ (good → result = 1 → (x.kind = .identRead ∨ r.toNat = expected) →
          segmentOutcome g x answer = .answered (.accept data))
      ∧ (good → result = 1 → x.kind ≠ .identRead → r.toNat ≠ expected → segmentOutcome g x answer = .crcError))
    ∧ (g.timedOut = false → ∀ answer : List Byte,
      (answer.length < 6 ∨ ∀ r, answer[5]? = some r → answer.length < 8 + r.toNat) →
      segmentOutcome g x answer = .crcError)

/-- What an identity read must hold to be good (R42, R199), and what ends an attempt without a claim: a failed one is read again
at the tail of the Service Queue and the third faults IDENT_TIMEOUT (R43); a good one stores its record, and faults IDENT_FORMAT
for a format other than 1, NO_MATCH for a rejection, PROFILE_ABSENT for an invalid profile (R44, R51). `FaultEntered` orders the
SLOT_LEFT replies of a slot by acceptance (the model's choice, log 12). -/
def Obligations.IdentAttemptEnds : Prop :=
  ((∀ (o : SegmentOutcome) (c : IdentityRecord), goodRead o = some c ↔
       o = .answered (.accept (identityBytes c)) ∧ 1 ≤ c.vendor.toNat ∧ c.vendor.toNat ≤ 65534)
     ∧ ∀ (s : State) (g : Segment) (x : Transaction) (a : Attempt) (answer : List Byte),
       segmentRuns s g x → x.kind = .identRead → s.attempt x.slot = some a → a.epoch = x.epoch →
       goodRead (segmentOutcome g x answer) = none →
       (a.number < 3 → exec (.segmentEnd answer) s = .next
         { s with
           matcher := { s.matcher with
             attempts := amend s.matcher.attempts x.slot fun _ => some ⟨a.epoch, a.number + 1⟩ }
           service := { s.service with
             segment := none, inFlight := none, queue := s.service.queue ++ [identRead x.slot a.epoch] } })
       ∧ (3 ≤ a.number → (s.slot x.slot).state = .identifying → (s.slot x.slot).epoch = a.epoch →
         ∃ t, exec (.segmentEnd answer) s = .next t ∧ FaultEntered x.slot .identTimeout none (segmentOver s) t))
  ∧ (∀ (s : State) (g : Segment) (x : Transaction) (a : Attempt) (answer : List Byte) (c : IdentityRecord),
       segmentRuns s g x → x.kind = .identRead → s.attempt x.slot = some a → a.epoch = x.epoch →
       goodRead (segmentOutcome g x answer) = some c →
       (s.slot x.slot).state = .identifying → (s.slot x.slot).epoch = a.epoch →
       let read := { segmentOver s with slots := amend s.slots x.slot fun r => { r with identity := some c } }
       (c.format ≠ 1 → ∃ t, exec (.segmentEnd answer) s = .next t ∧ FaultEntered x.slot .identFormat none read t)
       ∧ (c.format = 1 → evaluateIdentity s.matcher x.slot c = .reject →
         ∃ t, exec (.segmentEnd answer) s = .next t ∧ FaultEntered x.slot .noMatch none read t)
       ∧ (∀ p, c.format = 1 → evaluateIdentity s.matcher x.slot c = .assign p → (s.profile p).valid = false →
         ∃ t, exec (.segmentEnd answer) s = .next t ∧ FaultEntered x.slot .profileAbsent none read t))

/-- A good read that matches a valid profile (R44, R51, R75, R80): the record and the profile index are stored, and the
claim is parked, granted behind the ramp in progress, or granted with its ramp started at once. -/
def Obligations.IdentMatchAsksForClaim : Prop :=
  ∀ (s : State) (g : Segment) (x : Transaction) (a : Attempt) (answer : List Byte) (c : IdentityRecord)
    (p : ProfileIndex),
    segmentRuns s g x → x.kind = .identRead → s.attempt x.slot = some a → a.epoch = x.epoch →
    goodRead (segmentOutcome g x answer) = some c → c.format = 1 → evaluateIdentity s.matcher x.slot c = .assign p →
    (s.profile p).valid = true → (s.slot x.slot).state = .identifying → (s.slot x.slot).epoch = a.epoch →
    let k := x.slot
    let e := (s.slot k).epoch
    let diag := (s.cyc k).cardDiag
    let draw := (s.profile p).powerDraw
    let read := { s with
      service := { s.service with segment := none, inFlight := none }
      matcher := { s.matcher with attempts := amend s.matcher.attempts k fun _ => none } }
    (s.settings.budget < sumOfClaims s + draw → exec (.segmentEnd answer) s = .next
      { read with
        slots := amend s.slots k fun r =>
          { r with state := .powerWait, identity := some c, profileIndex := some p, parkReason := some .power }
        power := { s.power with waitList := s.power.waitList ++ [k] }
        mgmt := { s.mgmt with notices := queueNotice (.slot k .powerWait e none diag) s.mgmt.notices } })
    ∧ (sumOfClaims s + draw ≤ s.settings.budget → s.power.arbiter.isSome = true → exec (.segmentEnd answer) s = .next
      { read with
        slots := amend s.slots k fun r =>
          { r with state := .rampQueued, identity := some c, profileIndex := some p, parkReason := none }
        power := { s.power with
          slots := amend s.power.slots k fun r => { r with claim := some ⟨draw, e⟩ }
          waitList := without k s.power.waitList, rampQueue := s.power.rampQueue ++ [k] }
        mgmt := { s.mgmt with notices := queueNotice (.slot k .rampQueued e none diag) s.mgmt.notices } })
    ∧ (sumOfClaims s + draw ≤ s.settings.budget → s.power.arbiter = none → s.power.rampQueue = [] →
      exec (.segmentEnd answer) s = .next
      { read with
        slots := amend s.slots k fun r =>
          { r with state := .ramping, identity := some c, profileIndex := some p, parkReason := none }
        power := { s.power with
          slots := amend s.power.slots k fun r =>
            { r with claim := some ⟨draw, e⟩, mainSupply := true, rampTimer := some (s.profile p).rampTime }
          waitList := without k s.power.waitList, rampQueue := [], arbiter := some k }
        mgmt := { s.mgmt with
          notices := queueNotice (.slot k .ramping e none diag)
            (queueNotice (.slot k .rampQueued e none diag) s.mgmt.notices) } })

/-- One rule against a card (R47): the masked quantity and the masked value compared as unsigned whole numbers. -/
def Obligations.RuleComparison : Prop :=
  ∀ (k : Slot) (c : IdentityRecord) (r : Rule),
    let q := match r.field with
      | .vendor => c.vendor.toNat
      | .type => c.type.toNat
      | .hwRev => c.hardware.toNat
      | .fwRev => 256 * (c.firmware.extractLsb' 8 8).toNat + (c.firmware.extractLsb' 0 8).toNat
      | .serial => c.serial.toNat
      | .slot => k.val + 1
    let mq := q &&& r.mask.toNat
    let mv := r.value.toNat &&& r.mask.toNat
    (ruleMatches k c r = true ↔ match r.operator with
      | .equal => mq = mv
      | .notEqual => mq ≠ mv
      | .atLeast => mq ≥ mv
      | .atMost => mq ≤ mv)
    ∧ (∀ o, goodRead o = some c → 1 ≤ c.vendor.toNat ∧ c.vendor.toNat ≤ 65534)
    ∧ (∀ v, v &&& r.mask = r.value &&& r.mask → ruleMatches k c { r with value := v } = ruleMatches k c r)
    ∧ (r.mask = 0 → ruleMatches k c r = (r.operator != .notEqual))
    ∧ (r.mask = 65280 → r.field = .fwRev → ∀ c' : IdentityRecord,
        c'.firmware.extractLsb' 8 8 = c.firmware.extractLsb' 8 8 → ruleMatches k c' r = ruleMatches k c r)
    ∧ (r.mask = 65280 → r.field = .type → ∀ c' : IdentityRecord,
        c'.type.toNat / 256 = c.type.toNat / 256 → ruleMatches k c' r = ruleMatches k c r)

/-- How the rules of the table fall into groups (R48). -/
def Obligations.RuleGroupsPartition : Prop :=
  ∀ m : Matcher,
    let gs := ruleGroups m.rules.toList
    gs.flatten = m.rules.toList
    ∧ (∀ g ∈ gs, g ≠ [] ∧ ∀ r ∈ g.dropLast, r.chain = true)
    ∧ (∀ g ∈ gs.dropLast, ∀ r, g.getLast? = some r → r.chain = false)
    ∧ (∀ m' : Matcher, (∀ i : RuleIndex, i ≠ 23 → (look m'.rules i).chain = (look m.rules i).chain) →
        (ruleGroups m'.rules.toList).map List.length = gs.map List.length)

/-- When a group decides and with what (R49), and how the groups and the default action give the decision (R50). -/
def Obligations.GroupDecidesWithFirstEnabled : Prop :=
  (∀ (k : Slot) (c : IdentityRecord) (g : List Rule) (d : Decision), groupDecision k c g = some d ↔
    (∀ r ∈ g, r.enabled = true → ruleMatches k c r = true)
      ∧ ∃ before r after, g = before ++ r :: after ∧ (∀ b ∈ before, b.enabled = false) ∧ r.enabled = true
        ∧ d = (if r.action = .assign then .assign r.profile else .reject))
  ∧ ∀ (m : Matcher) (k : Slot) (c : IdentityRecord),
    (∀ before g after d, ruleGroups m.rules.toList = before ++ g :: after →
      (∀ b ∈ before, groupDecision k c b = none) → groupDecision k c g = some d → evaluateIdentity m k c = d)
    ∧ ((∀ g ∈ ruleGroups m.rules.toList, groupDecision k c g = none) → evaluateIdentity m k c = m.defaultAction)

/-- SEGMENT_END for a PARAM kind that stays or returns (R94), and for a segment whose transaction was ended (R97). That
SEGMENT_END with no segment changes nothing is the model's choice (log 2). -/
def Obligations.ParamSegmentGoesOn : Prop :=
  ∀ (s : State) (g : Segment) (answer : List Byte),
    (∀ x : Transaction, segmentRuns s g x → x.kind ≠ .identRead →
      (∀ data, segmentOutcome g x answer = .answered (.accept data) → x.position + 64 < x.totalLength →
        exec (.segmentEnd answer) s = .next
          { s with service := { s.service with
              segment := none
              inFlight := some { x with
                position := x.position + 64, gathered := x.gathered ++ data, repeatUsed := false } } })
      ∧ (segmentOutcome g x answer = .answered .busy → exec (.segmentEnd answer) s = .next
          { s with service := { s.service with
              segment := none, inFlight := none, queue := s.service.queue ++ [{ x with repeatUsed := false }] } })
      ∧ ((segmentOutcome g x answer = .noAnswer ∨ segmentOutcome g x answer = .crcError) → x.repeatUsed = false →
          exec (.segmentEnd answer) s = .next
            { s with service := { s.service with segment := none, inFlight := some { x with repeatUsed := true } } }))
    ∧ (s.service.segment = some g → g.live = false →
        exec (.segmentEnd answer) s = .next { s with service := { s.service with segment := none } })
    ∧ (s.service.segment = none → exec (.segmentEnd answer) s = .next s)

/-- How a download goes on (R101 to R103, R129): an ACCEPT of the last segment takes it to the next record, to the commit, or to
MAP_WAIT with an ADD; a REFUSE faults CARD_REFUSED with the card code, a second failure of one segment CARD_TIMEOUT. `FaultEntered`
orders the SLOT_LEFT replies of a slot by acceptance (the model's choice, log 12); the record number of a transaction is the
model's own field (log 24). -/
def Obligations.DownloadMovesOn : Prop :=
  (∀ (s : State) (g : Segment) (x : Transaction) (d : Download) (data answer : List Byte),
     segmentRuns s g x → x.origin = .sequencer → s.download x.slot = some d → d.epoch = x.epoch →
     segmentOutcome g x answer = .answered (.accept data) → x.totalLength ≤ x.position + 64 →
     let k := x.slot
     let free := { s.service with segment := none, inFlight := none }
     (∀ n r, d.step = .record n → x.kind = .paramWrite → x.recordNumber = some n →
       (s.profile d.profile).records[n]? = some r →
       exec (.segmentEnd answer) s = .next
         { s with service := { free with
             downloads := amend s.service.downloads k fun _ => some { d with step := .record (n + 1) }
             queue := s.service.queue ++
               [{ identRead k d.epoch with
                  kind := .paramWrite, parameter := some r.parameter, totalLength := r.length
                  source := some (.storeRange r.offset r.length), recordNumber := some (n + 1) }] } })
     ∧ (∀ n, d.step = .record n → x.kind = .paramWrite → x.recordNumber = some n →
       (s.profile d.profile).records[n]? = none →
       exec (.segmentEnd answer) s = .next
         { s with service := { free with
             downloads := amend s.service.downloads k fun _ => some { d with step := .commit }
             queue := s.service.queue ++ [{ identRead k d.epoch with kind := .paramCommit }] } })
     ∧ (d.step = .commit → x.kind = .paramCommit → (s.slot k).state = .configuring → (s.slot k).epoch = d.epoch →
       exec (.segmentEnd answer) s = .next
         { s with
           service := { free with downloads := amend s.service.downloads k fun _ => none }
           slots := amend s.slots k fun r => { r with state := .mapWait }
           maps := { s.maps with changes := s.maps.changes ++ [.add k] }
           mgmt := { s.mgmt with
             notices := queueNotice (.slot k .mapWait d.epoch none (s.cyc k).cardDiag) s.mgmt.notices } }))
  ∧ (∀ (s : State) (g : Segment) (x : Transaction) (d : Download) (answer : List Byte),
       segmentRuns s g x → x.origin = .sequencer → x.kind ≠ .identRead → s.download x.slot = some d →
       d.awaits x = true → (s.slot x.slot).state = .configuring → (s.slot x.slot).epoch = d.epoch →
       (∀ code, segmentOutcome g x answer = .answered (.refuse code) →
         ∃ t, exec (.segmentEnd answer) s = .next t ∧ FaultEntered x.slot .cardRefused (some code) (segmentOver s) t)
       ∧ ((segmentOutcome g x answer = .noAnswer ∨ segmentOutcome g x answer = .crcError) → x.repeatUsed = true →
         ∃ t, exec (.segmentEnd answer) s = .next t ∧ FaultEntered x.slot .cardTimeout none (segmentOver s) t))

/-- How a pass-through is answered when it completes (R94, R106, R108): its place becomes the reply's, and nothing else of
the coupler changes. That CARD_REFUSED and CARD_TIMEOUT carry the slot alone in their contents is the model's reading (log 11), and so
are the contents of DONE, the slot, the parameter and the bytes read or the number written (log 10), and the matching of the completion
to the outstanding access by tag, slot, epoch and kind (log 31). -/
def Obligations.PassThroughReplies : Prop :=
  ∀ (s : State) (g : Segment) (x : Transaction) (tag q : Byte) (answer : List Byte),
    segmentRuns s g x → x.origin = .passThrough → x.replyTag = some tag → x.parameter = some q →
    (x.kind = .paramRead ∨ x.kind = .paramWrite) →
    let p : PassThrough := ⟨tag, x.slot, x.epoch, x.kind == .paramWrite⟩
    p ∈ s.mgmt.outstanding →
    let code : Byte := if x.kind = .paramWrite then 113 else 112
    let freed := { s with
      service := { s.service with segment := none, inFlight := none }
      mgmt := { s.mgmt with outstanding := s.mgmt.outstanding.erase p } }
    (∀ data, segmentOutcome g x answer = .answered (.accept data) → x.totalLength ≤ x.position + 64 →
      exec (.segmentEnd answer) s = .next (postReply
        ⟨tag, code, .done, [slotByte x.slot, q] ++
          (if x.kind = .paramWrite then [byteOf x.totalLength] else x.gathered ++ data)⟩ freed))
    ∧ (∀ card, segmentOutcome g x answer = .answered (.refuse card) →
      exec (.segmentEnd answer) s = .next (postReply ⟨tag, code, .cardRefused card, [slotByte x.slot]⟩ freed))
    ∧ ((segmentOutcome g x answer = .noAnswer ∨ segmentOutcome g x answer = .crcError) → x.repeatUsed = true →
      exec (.segmentEnd answer) s = .next (postReply ⟨tag, code, .cardTimeout, [slotByte x.slot]⟩ freed))

/-! ## Maps -/

/-- First fit (R114): a region of length 1..128 goes to the lowest offset that is a multiple of the alignment, ends by 1024 and
shares no byte with the regions already held. A try in its four steps (R115, R118): IMAGE where either region fails, CYCLE where the
map with the new entry does not fit, and otherwise the entry with the slot's epoch, profile index and both regions. -/
def Obligations.PlacementTakesLowestOffset : Prop :=
  (∀ (rs : List Region) (length align : Nat),
     (align = 1 ∨ align = 2 ∨ align = 4) → 1 ≤ length → length ≤ 128 →
     let holds := fun o : Nat => align ∣ o ∧ o + length ≤ 1024
       ∧ ∀ r ∈ rs, ∀ b : Nat, ¬ ((o ≤ b ∧ b < o + length) ∧ (r.offset ≤ b ∧ b < r.offset + r.length))
     (∀ o, placeRegion rs length align = some (some ⟨o, length⟩) ↔ holds o ∧ ∀ o', o' < o → ¬ holds o')
     ∧ (placeRegion rs length align = none ↔ ∀ o, ¬ holds o)
     ∧ (∀ o l, placeRegion rs length align = some (some ⟨o, l⟩) → l = length)
     ∧ placeRegion rs 0 align = some none)
  ∧ (∀ (s : State) (es : List MapEntry) (k : Slot) (i : ProfileIndex), (s.slot k).profileIndex = some i →
       (∀ e ∈ es, e.slot ≠ k) →
       let p := s.profile i
       let output := placeRegion (es.filterMap (·.output)) p.outputLength p.alignment
       let input := placeRegion (es.filterMap (·.input)) p.inputLength p.alignment
       let cost := 10 * (p.outputLength + p.inputLength) + 84
       let fitting := (exchangeLength es + cost) * s.settings.rate.bitTime + 1000 * s.settings.reserve + 1000 * 20
         ≤ 1000 * s.settings.period
       ((output = none ∨ input = none) → tryPlace s es k = .parked .image)
       ∧ (∀ o i', output = some o → input = some i' → ¬ fitting → tryPlace s es k = .parked .cycle)
       ∧ (∀ o i', output = some o → input = some i' → fitting →
           tryPlace s es k = .placed ⟨k, (s.slot k).epoch, i, o, i'⟩))

/-- The exchange length is that of R117 whatever the order of the entries, each entry adding 10 × (Lo + Li) + 84, and it and the
quantities of the fit test lie in the ranges of R119. -/
def Obligations.ExchangeLengthBounds : Prop :=
  ((∀ es : List MapEntry, exchangeLength es =
     100 + (es.map fun e => 10 * (regionLength e.output + regionLength e.input) + 84).sum)
   ∧ (∀ es fs : List MapEntry, es.Perm fs → exchangeLength es = exchangeLength fs)
   ∧ ∀ (es : List MapEntry) (k : Slot), exchangeLength (es.filter fun e => e.slot != k) ≤ exchangeLength es)
  ∧ ((∀ es : List MapEntry, EntriesSound es →
       let outs := (es.map fun e => regionLength e.output).sum
       let ins := (es.map fun e => regionLength e.input).sum
       es.length ≤ 16 ∧ outs ≤ 1024 ∧ ins ≤ 1024
         ∧ 100 ≤ exchangeLength es ∧ exchangeLength es ≤ 21924
         ∧ (∀ rate : Rate, 2000 ≤ exchangeTime rate es ∧ exchangeTime rate es ≤ 1753920)
         ∧ ∀ r : RackSettings, SettingsSound r → r.reserve ≤ 65535 →
             exchangeTime r.rate es + 1000 * r.reserve + 1000 * 20 < 2 ^ 32)
     ∧ exchangeLength [] = 100
     ∧ (∃ es : List MapEntry, EntriesSound es ∧ exchangeLength es = 21924)
     ∧ (∀ r : RackSettings, SettingsSound r → 50000 ≤ 1000 * r.reserve + 1000 * 20
         ∧ 250000 ≤ 1000 * r.period ∧ 1000 * r.period ≤ 10000000)
     ∧ (∀ e : MapEntry, regionLength e.output ≤ 128 → regionLength e.input ≤ 128 → exchangeLength [e] ≤ 100 + 2644)
     ∧ (∀ (r : RackSettings) (e : MapEntry), r.rate = .mbit12 → r.period = 250 → r.reserve = 120 →
         119 < regionLength e.output + regionLength e.input → fits r [e] = false))

/-- BUILD when one is due (R133 to R137): the DROPs leave the map; the slots of the Map Wait List and then those of the
ADDs are tried in their order, each against the map as the tries before it left it; a slot placed enters MAP_PENDING, one
that parks stays in MAP_WAIT with the try's reason; a map that differs is offered, and its notice follows those of the slots
placed. That BUILD when none is due changes nothing is the model's choice (log 2). -/
def Obligations.BuildOffersMap : Prop :=
  ∀ s : State,
    (buildDue s.maps = false → exec .build s = .next s)
    ∧ (buildDue s.maps = true → MapSlotsSound s →
      let kept := s.maps.active.entries.filter fun e => !s.maps.changes.contains (.drop e.slot)
      let tries := buildTries s kept (triedSlots s)
      let placed := tries.2.filterMap fun x => match x.2 with
        | .placed _ => some x.1
        | .parked _ => none
      let same := dropsOf s = [] ∧ placed = []
      let generation := if s.maps.active.generation = 65535 then 1 else s.maps.active.generation + 1
      let slotNotices := placed.foldl
        (fun queued k => queueNotice (.slot k .mapPending (s.slot k).epoch none (s.cyc k).cardDiag) queued)
        s.mgmt.notices
      ∃ t : State, exec .build s = .next t
        ∧ (∀ k e, (k, Placement.placed e) ∈ tries.2 →
            t.slot k = { s.slot k with state := .mapPending, parkReason := none })
        ∧ (∀ k reason, (k, Placement.parked reason) ∈ tries.2 →
            t.slot k = { s.slot k with parkReason := some reason })
        ∧ (∀ k, k ∉ triedSlots s → t.slot k = s.slot k)
        ∧ t.maps =
            { s.maps with
              offered := if same then none else some ⟨generation, tries.1⟩
              changes := [], waitList := (triedSlots s).filter fun k => !placed.contains k, recheck := false }
        ∧ t.mgmt =
            { s.mgmt with
              notices := if same then s.mgmt.notices
                else queueNotice (.mapOffered generation (allSlots.filter fun k => placed.contains k) (dropsOf s))
                  slotNotices }
        ∧ t.presence = s.presence ∧ t.matcher = s.matcher ∧ t.library = s.library ∧ t.power = s.power
        ∧ t.service = s.service ∧ t.cycle = s.cycle)

/-- The service of a frame of class OFFERED begins with the swap (R139, R152, R158), the SLOT notices in slot order and then
MAP TAKEN, and goes on as that of a frame of class ACTIVE in the state after it. That the notice of a slot's move to RUNNING
carries card diag clear is the model's reading (log 17). -/
def Obligations.SwapPutsSlotsInService : Prop :=
  ∀ (s : State) (f : HeldFrame) (m : ImageMap),
    s.cycle.holder = some f → f.frameClass = .offered → backplaneIdle s = true → s.maps.offered = some m →
    let entering := allSlots.filter fun k =>
      (s.slot k).state == .mapPending && (entryOf m.entries k).any fun e => e.epoch == (s.slot k).epoch
    ∃ u : State, exec .frameServiceStart s
        = exec .frameServiceStart
            { u with cycle := { u.cycle with holder := some { f with frameClass := .active } } }
      ∧ u.maps = { s.maps with active := m, offered := none }
      ∧ (∀ (k : Slot) (e : MapEntry), (s.slot k).state = .mapPending → entryOf m.entries k = some e →
          e.epoch = (s.slot k).epoch →
          u.slot k = { s.slot k with state := .running, cleanRun := 0 }
            ∧ u.cyc k = { missCount := 0, lastOutput := List.replicate (regionLength e.output) 0
                          lastInput := List.replicate (regionLength e.input) 0, inputValid := false
                          cardDiag := false })
      ∧ (∀ k : Slot, ((s.slot k).state = .mapPending →
            ∀ e, entryOf m.entries k = some e → e.epoch ≠ (s.slot k).epoch) →
          u.slot k = s.slot k ∧ u.cyc k = s.cyc k)
      ∧ u.mgmt = { s.mgmt with
          notices := queueNotice (.mapTaken m.generation)
            (entering.foldl (fun queued k => queueNotice (.slot k .running (s.slot k).epoch none false) queued)
              s.mgmt.notices) }
      ∧ { u.cycle with slots := s.cycle.slots } = s.cycle ∧ u.pending = s.pending
      ∧ u.presence = s.presence ∧ u.matcher = s.matcher ∧ u.library = s.library ∧ u.power = s.power
      ∧ u.service = s.service

/-! ## Cyclic exchange -/

/-- Each check of a Cycle Frame that refuses it, in their order (R148, R149): the header-only Return Frame with the state
as it stands, and the reason's counter; nothing else changes. -/
def Obligations.CycleFrameRefused : Prop :=
  ∀ s : State,
    let refusedAs := fun (r : FrameResult) (count : Half) (c : LinkCounters) =>
      (.next (modCounters (fun _ => c) (postReturn
        { result := r, generation := s.maps.active.generation
          offered := match s.maps.offered with
            | some m => m.generation
            | none => 0
          cycleCount := count, rackState := s.cycle.rackState, condition := rackCondition s
          noticeCount := s.mgmt.notices.length, inputLength := 0, status := [], image := [] } s)) :
        Host.Outcome State Fault Refusal)
    let old := s.mgmt.counters
    let malformed := { old with malformed := min 65535 (old.malformed + 1) }
    (∀ body : List Byte, body.length < 6 → exec (.cycleFrame body) s = refusedAs .malformed
      (match body with
        | _ :: _ :: c1 :: c0 :: _ => c1 ++ c0
        | _ => 0) malformed)
    ∧ ∀ (g1 g0 c1 c0 n1 n0 : Byte) (output : List Byte),
      let received := exec (.cycleFrame (g1 :: g0 :: c1 :: c0 :: n1 :: n0 :: output)) s
      let g := g1.toNat * 256 + g0.toNat
      let n := n1.toNat * 256 + n0.toNat
      (1024 < n ∨ output.length ≠ n → received = refusedAs .malformed (c1 ++ c0) malformed)
      ∧ (n ≤ 1024 → output.length = n →
        (g = 0 ∨ (g ≠ s.maps.active.generation ∧ ∀ m, s.maps.offered = some m → g ≠ m.generation) →
          received = refusedAs .mismatch (c1 ++ c0) { old with mismatch := min 65535 (old.mismatch + 1) })
        ∧ ∀ m : ImageMap, g ≠ 0 →
          ((g = s.maps.active.generation ∧ m = s.maps.active)
            ∨ (g ≠ s.maps.active.generation ∧ s.maps.offered = some m ∧ g = m.generation)) →
          (n < outputExtent m.entries →
            received = refusedAs .short (c1 ++ c0) { old with short := min 65535 (old.short + 1) })
          ∧ (outputExtent m.entries ≤ n → s.cycle.holder.isSome = true →
            received = refusedAs .overlap (c1 ++ c0) { old with overlap := min 65535 (old.overlap + 1) }))

/-- An accepted Cycle Frame (R148, R150, R162, R165): the cycle count, the watchdog afresh and RUN, with RACK RESUMED from
SAFE and the long frame counted; on a busy backplane it is held, and on a free one its service starts at once, as
FRAME_SERVICE_START has it (one step for both, log 4). -/
def Obligations.CycleFrameAccepted : Prop :=
  ∀ (s : State) (g1 g0 c1 c0 n1 n0 : Byte) (output : List Byte) (m : ImageMap) (cls : FrameClass), CycleSound s →
    let g := g1.toNat * 256 + g0.toNat
    let n := n1.toNat * 256 + n0.toNat
    g ≠ 0 → n ≤ 1024 → output.length = n →
    ((g = s.maps.active.generation ∧ m = s.maps.active ∧ cls = .active)
      ∨ (g ≠ s.maps.active.generation ∧ s.maps.offered = some m ∧ g = m.generation ∧ cls = .offered)) →
    outputExtent m.entries ≤ n → s.cycle.holder = none →
    let held := { s with
      cycle := { s.cycle with
        rackState := .run, holder := some ⟨cls, c1 ++ c0, output⟩, lastCount := some (c1 ++ c0)
        watchdog := some (s.settings.watchdog * s.settings.period), safeTimer := none, safeDue := false }
      mgmt := { s.mgmt with
        notices := if s.cycle.rackState = .safe then queueNotice (.rackResumed g) s.mgmt.notices else s.mgmt.notices
        counters := if outputExtent m.entries < n then
            { s.mgmt.counters with long := min 65535 (s.mgmt.counters.long + 1) } else s.mgmt.counters } }
    let received := exec (.cycleFrame (g1 :: g0 :: c1 :: c0 :: n1 :: n0 :: output)) s
    (backplaneIdle s = false → received = .next held)
    ∧ (backplaneIdle s = true → received = exec .frameServiceStart held)

/-- The service of a held frame of class ACTIVE once the backplane is free (R152, R153, R200): the addressed set, the
outputs copied, and the Exchange Telegram. That the frame is served although a safe exchange is due beside it is the
model's choice (log 33), and so is that FRAME_SERVICE_START with an empty holder or on a busy backplane changes
nothing (log 2). -/
def Obligations.ServiceAddressesRunningSlots : Prop :=
  ∀ s : State,
    (∀ f : HeldFrame, s.cycle.holder = some f → f.frameClass = .active → backplaneIdle s = true →
      let ks := addressedSlots s
      let region := fun k => (entryOf s.maps.active.entries k).bind (·.output)
      let bytesOf := fun k => match region k with
        | some r => (f.output.drop r.offset).take r.length
        | none => []
      let data := ks.flatMap bytesOf
      let head := [1] ++ slotSetBytes ks ++ be16 data.length ++ [0, 0, 0]
      ∃ (t : State) (x : Exchange), exec .frameServiceStart s = .next t
        ∧ t = { s with cycle := { s.cycle with holder := none, exchange := some x, slots := t.cycle.slots } }
        ∧ x.kind = .normal f.cycleCount ∧ x.outcomes = [] ∧ x.cut = false ∧ x.bitTime = s.settings.rate.bitTime
        ∧ x.addressed.map (·.slot) = ks
        ∧ (∀ a ∈ x.addressed, a.epoch = (s.slot a.slot).epoch
            ∧ ∃ e, entryOf s.maps.active.entries a.slot = some e ∧ a.inputLength = regionLength e.input)
        ∧ x.telegram = head ++ data ++ half16 (crc16 (head ++ data))
        ∧ (∀ k ∈ ks, (region k).isSome = true → t.cyc k = { s.cyc k with lastOutput := bytesOf k })
        ∧ (∀ k, (k ∉ ks ∨ region k = none) → t.cyc k = s.cyc k))
    ∧ (s.cycle.holder = none ∨ backplaneIdle s = false → exec .frameServiceStart s = .next s)

/-- RESPONSE_WINDOW_CLOSE records the outcome of the open window (R154, R201): a response is good that came in time, with
the slot, the input length, as many bytes and the CRC-16; anything else is a miss. That the command changes nothing with no
window open is the model's choice (log 2; after a restart, log 6). -/
def Obligations.WindowCloseRecordsOutcome : Prop :=
  ∀ (s : State) (x : Exchange) (a : Addressed), s.cycle.exchange = some x →
    (x.cut = false → x.addressed[x.outcomes.length]? = some a → a.inputLength ≤ 128 →
      let whole := fun (flags : Byte) (data : List Byte) =>
        [slotByte a.slot, flags] ++ be16 a.inputLength ++ data
          ++ half16 (crc16 ([slotByte a.slot, flags] ++ be16 a.inputLength ++ data))
      let recorded := fun o : WindowOutcome =>
        (.next { s with cycle := { s.cycle with exchange := some { x with outcomes := x.outcomes ++ [o] } } } :
          Host.Outcome State Fault Refusal)
      (∀ flags data, data.length = a.inputLength →
        exec (.responseWindowClose true (whole flags data)) s = recorded (.good data (flags.getLsbD 0)))
      ∧ (∀ response, (∀ flags data, data.length = a.inputLength → response ≠ whole flags data) →
          exec (.responseWindowClose true response) s = recorded .miss)
      ∧ (∀ response, exec (.responseWindowClose false response) s = recorded .miss))
    ∧ (x.cut = true ∨ x.addressed.length ≤ x.outcomes.length →
        ∀ inWindow response, exec (.responseWindowClose inWindow response) s = .next s)

/-- The accounting of one addressed slot at an exchange's end (R11, R155, R156, R157): a slot that left RUNNING is skipped,
a good response and a miss act on the counts and buffers, and a miss at the limit faults RESPONSE_LOST. That the SLOT_LEFT
replies of the slot go out in the order of acceptance is the model's choice (log 12). -/
def Obligations.AccountingOfOneSlot : Prop :=
  ∀ (limit : Nat) (s : State) (a : Addressed),
    let k := a.slot
    (∀ o, ¬ ((s.slot k).state = .running ∧ (s.slot k).epoch = a.epoch) → accountSlot limit s (a, o) = s)
    ∧ ((s.slot k).state = .running → (s.slot k).epoch = a.epoch →
      (∀ data diag, accountSlot limit s (a, .good data diag) =
        { s with
          cycle := { s.cycle with
            slots := amend s.cycle.slots k fun c =>
              { c with missCount := 0, lastInput := data, inputValid := true, cardDiag := diag } }
          slots := amend s.slots k fun r =>
            if r.cleanRun + 1 = 4096 then { r with faultRun := 0, cleanRun := 0 }
            else { r with cleanRun := r.cleanRun + 1 }
          mgmt := { s.mgmt with
            notices := if diag = true ∧ (s.cyc k).cardDiag = false then
                queueNotice (.slot k .running (s.slot k).epoch none true) s.mgmt.notices
              else s.mgmt.notices } })
      ∧ (let missed : State := { s with
            cycle := { s.cycle with
              slots := amend s.cycle.slots k fun c => { c with missCount := c.missCount + 1, inputValid := false } }
            slots := amend s.slots k fun r => { r with cleanRun := 0 } };
          ((s.cyc k).missCount + 1 < limit → accountSlot limit s (a, .miss) = missed)
          ∧ (limit ≤ (s.cyc k).missCount + 1 →
              FaultEntered k .responseLost none missed (accountSlot limit s (a, .miss)))))

/-- EXCHANGE_END (R84, R155, R156, R159, R168): the slots are accounted for in slot order against the limit that stands,
and a normal exchange forms a Return Frame of the state after that, its rack state that of the moment, where R159's table
says RUN (the model's reading, log 21). An exchange cut off by a restart only leaves the backplane (the model's reading,
log 6), and with a window open EXCHANGE_END changes nothing (the model's choice, log 2). -/
def Obligations.ExchangeEndFormsReturnFrame : Prop :=
  ∀ (s : State) (x : Exchange), s.cycle.exchange = some x →
    let s' := { s with cycle := { s.cycle with exchange := none } }
    let limit := s.settings.missLimit + (if s.power.arbiter.isSome then s.settings.rampGrace else 0)
    let t := (x.addressed.zip x.outcomes).foldl (accountSlot limit) s'
    (x.cut = true → exec .exchangeEnd s = .next s')
    ∧ (x.cut = false → x.outcomes.length < x.addressed.length → exec .exchangeEnd s = .next s)
    ∧ (x.cut = false → x.addressed.length ≤ x.outcomes.length → x.kind = .safe → exec .exchangeEnd s = .next t)
    ∧ (∀ count, x.cut = false → x.addressed.length ≤ x.outcomes.length → x.kind = .normal count →
        exec .exchangeEnd s = .next (postReturn
          { result := .accepted, generation := t.maps.active.generation
            offered := match t.maps.offered with
              | some m => m.generation
              | none => 0
            cycleCount := count, rackState := t.cycle.rackState, condition := rackCondition t
            noticeCount := t.mgmt.notices.length, inputLength := inputExtent t.maps.active.entries
            status := allSlots.map fun k =>
              { stateClass := (t.slot k).state.stateClass, inputValid := answeredIn t x k
                cardDiag := (t.cyc k).cardDiag, noticeQueued := noticeQueued t.mgmt k }
            image := inputImage t } t))

/-- What a Return Frame resolves: input valid (R161), the rack condition (R24), the notice-queued flag, and the input image (R160),
as long as the input extent, each region carrying its slot's last input or zeros, with zeros outside every region; and the bytes
that a Return Frame is on the wire (R169, R188, R189). -/
def Obligations.ReturnFrameContents : Prop :=
  (∀ s : State,
     (∀ (x : Exchange) (k : Slot), answeredIn s x k = true ↔
       ∃ a data diag, (a, WindowOutcome.good data diag) ∈ x.addressed.zip x.outcomes ∧ a.slot = k
         ∧ (s.slot k).state = .running ∧ (s.slot k).epoch = a.epoch)
     ∧ (rackCondition s = .fault ↔ ∃ k : Slot, (s.slot k).state = .faulted ∨ (s.slot k).state = .quarantined)
     ∧ (rackCondition s = .steady ↔ s.maps.offered = none ∧ ∀ k : Slot,
         (s.slot k).state = .empty ∨ (s.slot k).state = .settling ∨ (s.slot k).state = .present
           ∨ (s.slot k).state = .running)
     ∧ (∀ k : Slot, noticeQueued s.mgmt k = true ↔
         ∃ n ∈ s.mgmt.notices, ∃ st e reason diag, n.body = .slot k st e reason diag))
  ∧ (∀ s : State, EntriesSound s.maps.active.entries → BuffersSound s →
       (inputImage s).length = inputExtent s.maps.active.entries
       ∧ (∀ e ∈ s.maps.active.entries, ∀ r, e.input = some r → ∀ i, i < r.length →
           (inputImage s)[r.offset + i]? =
             if (s.slot e.slot).state = .running ∧ (s.slot e.slot).epoch = e.epoch then (s.cyc e.slot).lastInput[i]?
             else some 0)
       ∧ ∀ o, o < inputExtent s.maps.active.entries →
           (∀ e ∈ s.maps.active.entries, ∀ r, e.input = some r → ¬ (r.offset ≤ o ∧ o < r.offset + r.length)) →
           (inputImage s)[o]? = some 0)
  ∧ (∀ f : ReturnFrame,
       let two := fun n : Nat => [byteOf (n / 256), byteOf n]
       let flag := fun (b : Bool) (weight : Nat) => if b then weight else 0
       let result : Byte := match f.result with
         | .accepted => 0 | .malformed => 1 | .mismatch => 2 | .short => 3 | .overlap => 4
       let rackState := match f.rackState with
         | .idle => 0 | .run => 1 | .safe => 2
       let condition := match f.condition with
         | .steady => 0 | .changing => 1 | .fault => 2
       let status := fun x : SlotStatus =>
         byteOf ((match x.stateClass with
             | .vacant => 0 | .waiting => 1 | .starting => 2 | .pending => 3 | .running => 4 | .faulted => 5
             | .quarantined => 6)
           + flag x.inputValid 8 + flag x.cardDiag 16 + flag x.noticeQueued 32)
       let body := [129, result] ++ two f.generation ++ two f.offered
         ++ [f.cycleCount.extractLsb' 8 8, f.cycleCount.extractLsb' 0 8]
         ++ [byteOf (rackState + 4 * condition), byteOf f.noticeCount] ++ two f.inputLength
         ++ f.status.map status ++ f.image
       f.wire = body ++ word32 (crc32 body)
         ∧ (f.status = [] → f.image = [] → f.wire.length = 16)
         ∧ (f.status.length = 16 → f.wire.length = 32 + f.image.length))

/-- The buffers stay of the lengths of the regions they serve (R146, R148, R154, R158), while the maps hold the entries of
the RUNNING slots as `MapSlotsSound` has them: a swap keeps their regions (R139). -/
def Obligations.StepKeepsBuffersSound : Prop :=
  ∀ s t : State, MapSlotsSound s → BuffersSound s → step s = .next t → BuffersSound t

/-- CYCLE_WATCHDOG_EXPIRY, SAFE_EXCHANGE_TIMER_EXPIRY and SAFE_EXCHANGE_START (R59, R163, R164, R200). That a safe exchange
is due, and starts, although a frame waits in the holder is the model's choice (log 33). A timer that does not run does not
expire, and SAFE_EXCHANGE_START with none due or on a busy backplane changes nothing (the model's choice, log 2). -/
def Obligations.SafeExchangesRun : Prop :=
  ∀ s : State,
    (∀ count, s.cycle.watchdog.isSome = true → s.cycle.lastCount = some count →
      exec .cycleWatchdogExpiry s = .next
        { s with
          cycle := { s.cycle with
            rackState := .safe, watchdog := none, safeDue := true, safeTimer := some s.settings.period }
          mgmt := { s.mgmt with notices := queueNotice (.rackSafe count) s.mgmt.notices } })
    ∧ (s.cycle.watchdog = none → exec .cycleWatchdogExpiry s = .next s)
    ∧ (s.cycle.safeTimer.isSome = true → exec .safeExchangeTimerExpiry s = .next
        { s with cycle := { s.cycle with safeDue := true, safeTimer := some s.settings.period } })
    ∧ (s.cycle.safeTimer = none → exec .safeExchangeTimerExpiry s = .next s)
    ∧ (s.cycle.safeDue = true → backplaneIdle s = true →
      let ks := addressedSlots s
      let bytesOf := fun k => match entryOf s.maps.active.entries k with
        | none => []
        | some e => match e.output with
          | none => []
          | some r => match (s.profile e.profile).safeMode with
            | .zero => List.replicate r.length 0
            | .hold => (s.cyc k).lastOutput
            | .pattern => (List.range r.length).map fun i =>
                s.library.store.read ((s.profile e.profile).patternOffset.getD 0 + i)
      let data := ks.flatMap bytesOf
      let head := [2] ++ slotSetBytes ks ++ be16 data.length ++ [0, 0, 0]
      ∃ x : Exchange, exec .safeExchangeStart s = .next
          { s with cycle := { s.cycle with safeDue := false, exchange := some x } }
        ∧ x.kind = .safe ∧ x.outcomes = [] ∧ x.cut = false ∧ x.bitTime = s.settings.rate.bitTime
        ∧ x.addressed.map (·.slot) = ks
        ∧ (∀ a ∈ x.addressed, a.epoch = (s.slot a.slot).epoch
            ∧ ∃ e, entryOf s.maps.active.entries a.slot = some e ∧ a.inputLength = regionLength e.input)
        ∧ x.telegram = head ++ data ++ half16 (crc16 (head ++ data)))
    ∧ (s.cycle.safeDue = false ∨ backplaneIdle s = false → exec .safeExchangeStart s = .next s)

/-! ## The head link -/

/-- BAD_CRC_FRAME and UPSTREAM_FRAME_END (R169, R171, R179), and how a formed frame joins what waits: Return Frames ahead of
replies, four waiting Return Frames at most (R171, R172, R175). That UPSTREAM_FRAME_END with an idle transmitter changes
nothing is the model's choice (log 2). -/
def Obligations.UpstreamOrder : Prop :=
  ∀ s : State,
    let sends := fun (t : Transmitter) (line : List ReturnFrame) (queue : List ReplyFrame) =>
      { s with mgmt := { s.mgmt with transmitter := t, returnLine := line, replyQueue := queue } }
    exec .badCrcFrame s = .next
      { s with mgmt := { s.mgmt with
          counters := { s.mgmt.counters with badCrc := min 65535 (s.mgmt.counters.badCrc + 1) } } }
    ∧ (s.mgmt.transmitter = .idle → exec .upstreamFrameEnd s = .next s)
    ∧ (s.mgmt.transmitter ≠ .idle →
      (∀ f rest, s.mgmt.returnLine = f :: rest →
        exec .upstreamFrameEnd s = .next (sends (.sendingReturn f.wire) rest s.mgmt.replyQueue))
      ∧ (∀ r rest, s.mgmt.returnLine = [] → s.mgmt.replyQueue = r :: rest →
        exec .upstreamFrameEnd s = .next (sends (.sendingReply r.wire) [] rest))
      ∧ (s.mgmt.returnLine = [] → s.mgmt.replyQueue = [] → exec .upstreamFrameEnd s = .next (sends .idle [] []))
      ∧ (∀ r, postReply r s = sends s.mgmt.transmitter s.mgmt.returnLine (s.mgmt.replyQueue ++ [r]))
      ∧ (∀ f, s.mgmt.returnLine.length < 4 →
        postReturn f s = sends s.mgmt.transmitter (s.mgmt.returnLine ++ [f]) s.mgmt.replyQueue)
      ∧ (∀ f oldest rest, s.mgmt.returnLine = oldest :: rest → rest.length = 3 →
        postReturn f s = sends s.mgmt.transmitter (rest ++ [f]) s.mgmt.replyQueue))
    ∧ (s.mgmt.transmitter = .idle → s.mgmt.returnLine = [] → s.mgmt.replyQueue = [] →
      (∀ r, postReply r s = sends (.sendingReply r.wire) [] [])
      ∧ ∀ f, postReturn f s = sends (.sendingReturn f.wire) [] [])

/-- The receiver hands on every well-formed command of the head link from the frame that carries it, and discards the
frames of R169's list; it takes each frame between its delimiters, in the order in which they end, a cold reset discards the
frame being received, so that what is left of it is passed over, and no other command acts on the receiver (R169, R170). That a
discarded frame is the command BAD_CRC_FRAME is the model's choice (log 7), and so is that the link's symbols are heard between
commands, a new start delimiter beginning the next frame (log 27). -/
def Obligations.ReceiverReadsFrames : Prop :=
  (∀ (c : Instr) (f : List Byte), c.wellFormed = true → commandFrame c = some f →
    receiveFrame false f = c ∧ 5 ≤ f.length ∧ f.length ≤ 1280)
  ∧ (∀ f, receiveFrame true f = .badCrcFrame)
  ∧ (∀ broken (f : List Byte), f.length < 5 ∨ 1280 < f.length → receiveFrame broken f = .badCrcFrame)
  ∧ (∀ broken (body crc : List Byte), crc.length = 4 → crc ≠ word32 (crc32 body) →
      receiveFrame broken (body ++ crc) = .badCrcFrame)
  ∧ (∀ broken (kind : Byte) (rest : List Byte), kind ≠ 1 → kind ≠ 2 →
      receiveFrame broken (withCrc32 (kind :: rest)) = .badCrcFrame)
  ∧ (∀ broken (rest : List Byte), rest.length < 2 → receiveFrame broken (withCrc32 (2 :: rest)) = .badCrcFrame)
  ∧ (∀ (s : State) (f : List Byte),
       let heard := ([LinkSymbol.startDelimiter] ++ f.map LinkSymbol.byte ++ [LinkSymbol.endDelimiter]).foldl State.hear s
       (s.mgmt.receiver = none → heard = { s with pending := s.pending ++ [receiveFrame false f] })
       ∧ (∀ g, s.mgmt.receiver = some g → heard =
           { s with pending := s.pending ++ [.badCrcFrame, receiveFrame false f]
                    mgmt := { s.mgmt with receiver := none } })
       ∧ (∀ g, s.mgmt.receiver = some g → (f.map LinkSymbol.byte ++ [LinkSymbol.endDelimiter]).foldl State.hear s =
           { s with pending := s.pending ++ [receiveFrame false (g ++ f)]
                    mgmt := { s.mgmt with receiver := none } }))
  ∧ (∀ (s : State) (xs : List LinkSymbol), s.mgmt.receiver = none → LinkSymbol.startDelimiter ∉ xs →
       xs.foldl State.hear s = s)
  ∧ (∀ (c : Instr) (s t : State), exec c s = .next t →
       t.mgmt.receiver = if c = .coldReset then none else s.mgmt.receiver)

/-- A request that arrives while all eight places are taken is dropped and counted, whatever it is (R175, R179). -/
def Obligations.FullQueueDropsRequest : Prop :=
  ∀ (c : Instr) (tag code : Byte) (args : List Byte) (s : State),
    requestOf c = some (tag, code, args) → 8 ≤ placesTaken s.mgmt →
    exec c s = .next
      { s with mgmt := { s.mgmt with
          counters := { s.mgmt.counters with dropped := min 65535 (s.mgmt.counters.dropped + 1) } } }

/-- A well-formed request with the wrong number of argument bytes, with a code that names no request, or with a value outside its
range is refused BAD_ARGUMENT and changes nothing (R17, R18, R53, R54, R55, R64, R66, R68, R71, R106, R143, R173, R174, R177, R180,
R193).
That a RACK SET refused for its length reports the settings too is the model's reading (log 11). -/
def Obligations.BadArgumentsRefused : Prop :=
  (∀ (c : Instr) (tag code : Byte) (args : List Byte) (s : State),
     c.wellFormed = true → requestOf c = some (tag, code, args) → argumentBytes code args ≠ some args.length →
     placeFree s →
     exec c s = .next (postReply
       ⟨tag, code, .refused .badArgument, if code = 80 then settingsBytes s.settings else []⟩ s))
  ∧ (∀ (tag : Byte) (s : State), placeFree s →
       let refusedAs := fun code : Byte =>
         (.next (postReply ⟨tag, code, .refused .badArgument, []⟩ s) : Host.Outcome State Fault Refusal)
       (∀ k : Byte, k = 0 ∨ 16 < k.toNat →
         (∀ m, exec (.slotMode tag [k, m]) s = refusedAs 16) ∧ exec (.slotStart tag [k]) s = refusedAs 17
           ∧ exec (.slotStop tag [k]) s = refusedAs 18 ∧ exec (.slotClear tag [k]) s = refusedAs 19
           ∧ exec (.slotRead tag [k]) s = refusedAs 20 ∧ (∀ p n, exec (.cardRead tag [k, p, n]) s = refusedAs 112)
           ∧ ∀ p n data, exec (.cardWrite tag (k :: p :: n :: data)) s = refusedAs 113)
       ∧ (∀ k m : Byte, 2 < m.toNat → exec (.slotMode tag [k, m]) s = refusedAs 16)
       ∧ (∀ i : Byte, 31 < i.toNat → (∀ f, exec (.profileDrop tag [i, f]) s = refusedAs 33)
           ∧ exec (.profileRead tag [i]) s = refusedAs 35 ∧ exec (.ruleDefault tag [1, i]) s = refusedAs 50)
       ∧ (∀ i f : Byte, 1 < f.toNat → exec (.profileDrop tag [i, f]) s = refusedAs 33
           ∧ exec (.ruleDefault tag [f, i]) s = refusedAs 50 ∧ exec (.rackRead tag [f]) s = refusedAs 81
           ∧ exec (.mapRead tag [f]) s = refusedAs 96)
       ∧ (∀ i : Byte, 23 < i.toNat → exec (.ruleRead tag [i]) s = refusedAs 49)
       ∧ (∀ (i en f op ch ac p : Byte) (m v : BitVec 32),
           (23 < i.toNat ∨ 1 < en.toNat ∨ 5 < f.toNat ∨ 3 < op.toNat ∨ 1 < ch.toNat ∨ 1 < ac.toNat ∨ 31 < p.toNat) →
           exec (.ruleWrite tag ([i, en, f, op] ++ word32 m ++ word32 v ++ [ch, ac, p])) s = refusedAs 48)
       ∧ (∀ o1 o0 n : Byte, n = 0 ∨ 240 < n.toNat ∨ 16384 < nat16 o1 o0 + n.toNat →
           exec (.storeRead tag [o1, o0, n]) s = refusedAs 65)
       ∧ (∀ (i lk p1 p0 r1 r0 c1 c0 ol il al sm o1 o0 n : Byte) (records : List Byte),
           (31 < i.toNat ∨ 1 < lk.toNat ∨ 2 < sm.toNat) →
           exec (.profileLoad tag
             ([i, lk, p1, p0, r1, r0, c1, c0, ol, il, al, sm, o1, o0, n] ++ records)) s = refusedAs 32)
       ∧ (∀ r t1 t0 a1 a0 b1 b0 ad ml rg w i1 i0 rd : Byte, (r = 0 ∨ 3 < r.toNat ∨ 1 < ad.toNat) →
           exec (.rackSet tag [r, t1, t0, a1, a0, b1, b0, ad, ml, rg, w, i1, i0, rd]) s
             = .next (postReply ⟨tag, 80, .refused .badArgument, settingsBytes s.settings⟩ s))
       ∧ (∀ k p n : Byte, n = 0 ∨ 240 < n.toNat → exec (.cardRead tag [k, p, n]) s = refusedAs 112
           ∧ ∀ data, exec (.cardWrite tag (k :: p :: n :: data)) s = refusedAs 113))

/-! ## Slot requests -/

/-- SLOT MODE and SLOT START (R15, R17, R18, R19, R40): the mode is set in every state, and a slot in PRESENT goes to
IDENTIFYING through an open gate or by a start. That a SLOT MODE with the mode already set changes nothing is the model's
reading (log 30). -/
def Obligations.SlotModeAndStart : Prop :=
  ∀ (tag : Byte) (k : Slot) (m : Mode) (s : State), placeFree s →
    let e := (s.slot k).epoch
    let reply := fun (code : Byte) (t : State) =>
      (.next (postReply ⟨tag, code, .done,
        [slotByte k, slotStateByte (t.slot k).state, modeByte (t.slot k).mode, (t.slot k).epoch]⟩ t) :
        Host.Outcome State Fault Refusal)
    let identified := fun mode : Mode =>
      { s with
        slots := amend s.slots k fun r => { r with mode := mode, state := .identifying }
        matcher := { s.matcher with attempts := amend s.matcher.attempts k fun _ => some ⟨e, 1⟩ }
        service := { s.service with queue := s.service.queue ++ [identRead k e] }
        mgmt := { s.mgmt with
          notices := queueNotice (.slot k .identifying e none (s.cyc k).cardDiag) s.mgmt.notices } }
    ((s.slot k).mode = m → exec (.slotMode tag [slotByte k, modeByte m]) s = reply 16 s)
    ∧ ((s.slot k).mode ≠ m → ¬ (m = .auto ∧ (s.slot k).state = .present ∧ s.settings.admission = .opened) →
      exec (.slotMode tag [slotByte k, modeByte m]) s
        = reply 16 { s with slots := amend s.slots k fun r => { r with mode := m } })
    ∧ ((s.slot k).mode ≠ m → m = .auto → (s.slot k).state = .present → s.settings.admission = .opened →
      exec (.slotMode tag [slotByte k, modeByte m]) s = reply 16 (identified .auto))
    ∧ ((s.slot k).state = .present → (s.slot k).mode ≠ .blocked →
      exec (.slotStart tag [slotByte k]) s = reply 17 (identified (s.slot k).mode))
    ∧ ((s.slot k).state ≠ .present ∨ (s.slot k).mode = .blocked →
      exec (.slotStart tag [slotByte k]) s = .next (postReply ⟨tag, 17, .refused .wrongState, []⟩ s))

/-- SLOT STOP (R20): a slot in IDENTIFYING through RUNNING is withdrawn to PRESENT in mode MANUAL; in any other state it is
refused WRONG_STATE. That the SLOT_LEFT replies of a RUNNING slot go out in the order of acceptance is the model's choice
(log 12). -/
def Obligations.SlotStopWithdraws : Prop :=
  ∀ (tag : Byte) (k : Slot) (s : State), placeFree s →
    let stoppable := (s.slot k).state ≠ .empty ∧ (s.slot k).state ≠ .settling ∧ (s.slot k).state ≠ .present
      ∧ (s.slot k).state ≠ .faulted ∧ (s.slot k).state ≠ .quarantined
    (stoppable → ∃ t, exec (.slotStop tag [slotByte k]) s
        = .next (postReply ⟨tag, 18, .done, [slotByte k, 2, 1, (s.slot k).epoch]⟩ t)
      ∧ Withdrawn k s t
      ∧ t.slot k = { s.slot k with state := .present, mode := .manual, profileIndex := none, parkReason := none }
      ∧ t.presence = s.presence ∧ t.cycle = s.cycle
      ∧ ∃ n ∈ t.mgmt.notices, n.body = .slot k .present (s.slot k).epoch none (s.cyc k).cardDiag)
    ∧ (¬ stoppable →
      exec (.slotStop tag [slotByte k]) s = .next (postReply ⟨tag, 18, .refused .wrongState, []⟩ s))

/-- SLOT CLEAR (R15, R21, R22): from FAULTED to PRESENT and through the gate, from QUARANTINED to the state that the card
and the debounce give, in mode MANUAL; in any other state it is refused WRONG_STATE. -/
def Obligations.SlotClearLeavesFault : Prop :=
  ∀ (tag : Byte) (k : Slot) (s : State), placeFree s →
    let e := (s.slot k).epoch
    let diag := (s.cyc k).cardDiag
    let reply := fun (t : State) =>
      (.next (postReply ⟨tag, 19, .done,
        [slotByte k, slotStateByte (t.slot k).state, modeByte (t.slot k).mode, e]⟩ t) :
        Host.Outcome State Fault Refusal)
    ((s.slot k).state = .faulted → ¬ ((s.slot k).mode = .auto ∧ s.settings.admission = .opened) →
      exec (.slotClear tag [slotByte k]) s = reply
        { s with
          slots := amend s.slots k fun r =>
            { r with state := .present, faultReason := none, cardCode := none, profileIndex := none }
          mgmt := { s.mgmt with notices := queueNotice (.slot k .present e none diag) s.mgmt.notices } })
    ∧ ((s.slot k).state = .faulted → (s.slot k).mode = .auto → s.settings.admission = .opened →
      exec (.slotClear tag [slotByte k]) s = reply
        { s with
          slots := amend s.slots k fun r =>
            { r with state := .identifying, faultReason := none, cardCode := none, profileIndex := none }
          matcher := { s.matcher with attempts := amend s.matcher.attempts k fun _ => some ⟨e, 1⟩ }
          service := { s.service with queue := s.service.queue ++ [identRead k e] }
          mgmt := { s.mgmt with
            notices := queueNotice (.slot k .identifying e none diag)
              (queueNotice (.slot k .present e none diag) s.mgmt.notices) } })
    ∧ (∀ x : SlotState, (s.slot k).state = .quarantined →
      (((s.slot k).cardPresent = true ∧ x = .present)
        ∨ ((s.slot k).cardPresent = false ∧ (s.pres k).phase = .inserting ∧ x = .settling)
        ∨ ((s.slot k).cardPresent = false ∧ (s.pres k).phase ≠ .inserting ∧ x = .empty)) →
      exec (.slotClear tag [slotByte k]) s = reply
        { s with
          slots := amend s.slots k fun r =>
            { r with state := x, mode := .manual, faultRun := 0, faultReason := none, cardCode := none
                     profileIndex := none }
          mgmt := { s.mgmt with notices := queueNotice (.slot k x e none diag) s.mgmt.notices } })
    ∧ ((s.slot k).state ≠ .faulted → (s.slot k).state ≠ .quarantined →
      exec (.slotClear tag [slotByte k]) s = .next (postReply ⟨tag, 19, .refused .wrongState, []⟩ s))

/-- The reads (R23, R54, R68, R71, R143, R180, R194, R196): each replies with what stands and changes nothing, but for the counters
that RACK READ clears when asked. The layouts of the replies to SLOT READ, STORE READ and MAP READ (R197) and of the notice records
(R198) are spelled out; that a STORE READ reply carries the bytes alone, and the fields around those of a profile or a rule in the
replies to PROFILE READ and RULE READ, are the model's reading (log 10). NOTICE FETCH takes the eight oldest notices at most from the
queue (R182). -/
def Obligations.ReadsAndFetchReply : Prop :=
  (∀ (tag : Byte) (s : State), placeFree s →
     let reply := fun (code : Byte) (contents : List Byte) =>
       (.next (postReply ⟨tag, code, .done, contents⟩ s) : Host.Outcome State Fault Refusal)
     (∀ k : Slot, exec (.slotRead tag [slotByte k]) s = reply 20
       (let r := s.slot k
        let claim := (s.pow k).claim.map (·.amount)
        let present := fun (b : Bool) (weight : Nat) => if b then weight else 0
        [slotByte k, slotStateByte r.state, modeByte r.mode, r.epoch, flagByte r.cardPresent, byteOf r.faultRun]
          ++ be16 r.cleanRun
          ++ [byteOf (present r.identity.isSome 1 + present r.profileIndex.isSome 2 + present claim.isSome 4
                + present r.parkReason.isSome 8 + present r.faultReason.isSome 16 + present r.cardCode.isSome 32),
              (r.profileIndex.map fun p => byteOf p.val).getD 0]
          ++ be16 (claim.getD 0)
          ++ [(r.parkReason.map parkReasonByte).getD 0, (r.faultReason.map faultReasonByte).getD 0, r.cardCode.getD 0]
          ++ (r.identity.map identityBytes).getD (List.replicate 12 0)))
     ∧ (∀ i : ProfileIndex, exec (.profileRead tag [byteOf i.val]) s = reply 35
         ([flagByte (s.profile i).valid] ++ profileBytes (s.profile i) ++ [flagByte (inUse s i)]))
     ∧ (∀ i : RuleIndex, exec (.ruleRead tag [byteOf i.val]) s = reply 49
         (ruleBytes (look s.matcher.rules i) ++ decisionBytes s.matcher.defaultAction))
     ∧ (∀ o n : Nat, 1 ≤ n → n ≤ 240 → o < 16384 → o + n ≤ 16384 →
         exec (.storeRead tag (be16 o ++ [byteOf n])) s
           = reply 65 ((List.range n).map fun i => s.library.store.read (o + i)))
     ∧ exec (.rackRead tag [0]) s = reply 81 (settingsBytes s.settings ++ counterBytes s.mgmt.counters)
     ∧ exec (.rackRead tag [1]) s = .next (postReply
         ⟨tag, 81, .done, settingsBytes s.settings ++ counterBytes s.mgmt.counters⟩
         { s with mgmt := { s.mgmt with
             counters := { badCrc := 0, malformed := 0, mismatch := 0, short := 0, overlap := 0, long := 0, dropped := 0 } } })
     ∧ exec (.mapRead tag [0]) s = reply 96 (mapReadBytes s s.maps.active fun e =>
         !((s.slot e.slot).state == .running && (s.slot e.slot).epoch == e.epoch))
     ∧ (∀ m, s.maps.offered = some m → exec (.mapRead tag [1]) s = reply 96 (mapReadBytes s m fun e =>
         !(((s.slot e.slot).state == .running || (s.slot e.slot).state == .mapPending)
           && (s.slot e.slot).epoch == e.epoch)))
     ∧ (s.maps.offered = none → exec (.mapRead tag [1]) s = .next (postReply ⟨tag, 96, .refused .wrongState, []⟩ s)))
  ∧ (∀ (tag : Byte) (s : State), placeFree s →
       exec (.noticeFetch tag []) s = .next (postReply
         ⟨tag, 1, .done, [byteOf (min 8 s.mgmt.notices.length), byteOf (s.mgmt.notices.length - 8)]
           ++ (s.mgmt.notices.take 8).flatMap noticeBytes⟩
         { s with mgmt := { s.mgmt with notices := s.mgmt.notices.drop 8 } }))
  ∧ (let two := fun n : Nat => [byteOf (n / 256), byteOf n]
     (∀ (count : Nat) (k : Slot) (x : SlotState) (e : Epoch) (reason : Option FaultReason) (diag : Bool),
        noticeBytes ⟨count, .slot k x e reason diag⟩ =
          [1, byteOf count, byteOf (k.val + 1),
            (match x with
              | .empty => 0 | .settling => 1 | .present => 2 | .identifying => 3 | .powerWait => 4 | .rampQueued => 5
              | .ramping => 6 | .configuring => 7 | .mapWait => 8 | .mapPending => 9 | .running => 10 | .faulted => 11
              | .quarantined => 12),
            e,
            (match reason with
              | none => 0 | some .identTimeout => 1 | some .identFormat => 2 | some .noMatch => 3
              | some .profileAbsent => 4 | some .powerFail => 5 | some .powerLost => 6 | some .cardRefused => 7
              | some .cardTimeout => 8 | some .configTimeout => 9 | some .responseLost => 10),
            if diag then 1 else 0, 0])
     ∧ (∀ (count g : Nat) (placed removed : List Slot), ∃ p1 p0 r1 r0 : Byte,
        noticeBytes ⟨count, .mapOffered g placed removed⟩ = [2, byteOf count] ++ two g ++ [p1, p0, r1, r0]
          ∧ ∀ k : Slot, ((p1 ++ p0).getLsbD k.val = true ↔ k ∈ placed) ∧ ((r1 ++ r0).getLsbD k.val = true ↔ k ∈ removed))
     ∧ (∀ count g : Nat, noticeBytes ⟨count, .mapTaken g⟩ = [3, byteOf count] ++ two g ++ [0, 0, 0, 0]
        ∧ noticeBytes ⟨count, .rackResumed g⟩ = [5, byteOf count] ++ two g ++ [0, 0, 0, 0])
     ∧ (∀ (count : Nat) (c : Half), noticeBytes ⟨count, .rackSafe c⟩ =
        [4, byteOf count, c.extractLsb' 8 8, c.extractLsb' 0 8, 0, 0, 0, 0])
     ∧ ∀ (s : State) (m : ImageMap) (orphan : MapEntry → Bool),
        let slot := fun k : Slot => byteOf (k.val + 1)
        let entries := allSlots.filterMap fun k => m.entries.find? fun e => e.slot == k
        let region := fun r : Option Region => match r with
          | none => [0, 0, 0]
          | some r => two r.offset ++ [byteOf r.length]
        let extentOf := fun rs : List Region => (rs.map fun r => r.offset + r.length).foldr max 0
        mapReadBytes s m orphan =
          two m.generation ++ [byteOf entries.length]
            ++ entries.flatMap (fun e => [slot e.slot, e.epoch, byteOf e.profile.val] ++ region e.output ++ region e.input
                ++ [if orphan e then 1 else 0])
            ++ two (extentOf (m.entries.filterMap (·.output))) ++ two (extentOf (m.entries.filterMap (·.input)))
            ++ two (exchangeLength m.entries)
            ++ two ((1000 * s.settings.period - 1000 * s.settings.reserve - 1000 * 20
                - exchangeLength m.entries * s.settings.rate.bitTime) / 1000)
            ++ [byteOf s.maps.changes.length]
            ++ s.maps.changes.flatMap (fun c => match c with
                | .add k => [0, slot k]
                | .drop k => [1, slot k])
            ++ [byteOf s.maps.waitList.length]
            ++ s.maps.waitList.flatMap (fun k => [slot k, match (s.slot k).parkReason with
                | none => 0 | some .power => 1 | some .image => 2 | some .cycle => 3])
            ++ [if s.maps.recheck then 1 else 0])

/-! ## Tables and store -/

/-- When a profile is in use (R62), and when a written range touches a locked or in-use profile's store ranges (R58, R59,
R70): by a shared byte, so that an empty pattern touches nothing. -/
def Obligations.InUseAndTouchedRanges : Prop :=
  ∀ s : State,
    let covers := fun (i : ProfileIndex) (b : Nat) => (s.profile i).valid = true ∧
      ((∃ r ∈ (s.profile i).records, r.offset ≤ b ∧ b < r.offset + r.length)
        ∨ ((s.profile i).safeMode = .pattern ∧ (s.profile i).patternOffset.getD 0 ≤ b
            ∧ b < (s.profile i).patternOffset.getD 0 + (s.profile i).outputLength))
    (∀ i : ProfileIndex, inUse s i = true ↔
      (∃ k : Slot, (s.slot k).profileIndex = some i ∧
        ((s.slot k).state = .powerWait ∨ (s.slot k).state = .rampQueued ∨ (s.slot k).state = .ramping
          ∨ (s.slot k).state = .configuring ∨ (s.slot k).state = .mapWait ∨ (s.slot k).state = .mapPending
          ∨ (s.slot k).state = .running))
      ∨ (∃ e ∈ s.maps.active.entries, e.profile = i)
      ∨ (∃ m, s.maps.offered = some m ∧ ∃ e ∈ m.entries, e.profile = i))
    ∧ (∀ o n : Nat, touchesLocked s ⟨o, n⟩ = true ↔
      ∃ i : ProfileIndex, (s.profile i).locked = true ∧ ∃ b, o ≤ b ∧ b < o + n ∧ covers i b)
    ∧ (∀ o n : Nat, touchesInUse s ⟨o, n⟩ = true ↔
      ∃ i : ProfileIndex, inUse s i = true ∧ ∃ b, o ≤ b ∧ b < o + n ∧ covers i b)

/-- PROFILE LOAD (R58, R60, R64, R65): BAD_ARGUMENT, LOCKED and IN_USE in that order, otherwise the profile is replaced as a
whole, three fields clamped. That the reply starts at the locked flag is the model's reading (log 10). -/
def Obligations.ProfileLoadReplaces : Prop :=
  ∀ (tag : Byte) (s : State) (i : ProfileIndex) (locked : Bool) (mode : SafeMode) (draw ramp timeout pattern : Nat)
    (outLen inLen align : Nat) (records : List ParameterRecord), placeFree s →
    draw < 65536 → ramp < 65536 → timeout < 65536 → pattern < 65536 → outLen < 256 → inLen < 256 → align < 256 →
    records.length < 256 → (∀ r ∈ records, r.offset < 65536 ∧ r.length < 65536) →
    let args := [byteOf i.val, flagByte locked] ++ be16 draw ++ be16 ramp ++ be16 timeout
      ++ [byteOf outLen, byteOf inLen, byteOf align, safeModeByte mode] ++ be16 pattern ++ [byteOf records.length]
      ++ records.flatMap recordBytes
    let legal := outLen ≤ 128 ∧ inLen ≤ 128 ∧ (align = 1 ∨ align = 2 ∨ align = 4) ∧ records.length ≤ 8
      ∧ (∀ r ∈ records, 1 ≤ r.length ∧ r.length ≤ 1024 ∧ r.offset ≤ 16383 ∧ r.offset + r.length ≤ 16384)
      ∧ (mode = .pattern → pattern ≤ 16383 ∧ pattern + outLen ≤ 16384)
    let stored : Profile :=
      { valid := true, locked := locked, powerDraw := max 1 (min draw 2000), rampTime := max 1 (min ramp 250)
        configTimeout := max 10 (min timeout 10000), outputLength := outLen, inputLength := inLen, alignment := align
        safeMode := mode, patternOffset := if mode = .pattern then some pattern else none, records := records }
    let received := exec (.profileLoad tag args) s
    (¬ legal → received = .next (postReply ⟨tag, 32, .refused .badArgument, []⟩ s))
    ∧ (legal → (s.profile i).locked = true → received = .next (postReply ⟨tag, 32, .refused .locked, []⟩ s))
    ∧ (legal → (s.profile i).locked = false → inUse s i = true →
        received = .next (postReply ⟨tag, 32, .refused .inUse, []⟩ s))
    ∧ (legal → (s.profile i).locked = false → inUse s i = false →
        received = .next (postReply ⟨tag, 32, .done, profileBytes stored⟩
          { s with library := { s.library with profiles := amend s.library.profiles i fun _ => stored } }))

/-- PROFILE DROP and PROFILE PURGE (R57, R66, R67): what is dropped takes the values of a cold reset. -/
def Obligations.ProfileDropAndPurge : Prop :=
  ∀ (tag : Byte) (s : State), placeFree s →
    let clean : Profile :=
      { valid := false, locked := false, powerDraw := 1, rampTime := 1, configTimeout := 10, outputLength := 0
        inputLength := 0, alignment := 1, safeMode := .zero, patternOffset := none, records := [] }
    (∀ (i : ProfileIndex) (force : Bool),
      let received := exec (.profileDrop tag [byteOf i.val, flagByte force]) s
      ((s.profile i).locked = true → force = false →
        received = .next (postReply ⟨tag, 33, .refused .locked, []⟩ s))
      ∧ (((s.profile i).locked = false ∨ force = true) → inUse s i = true →
        received = .next (postReply ⟨tag, 33, .refused .inUse, []⟩ s))
      ∧ (((s.profile i).locked = false ∨ force = true) → inUse s i = false →
        received = .next (postReply ⟨tag, 33, .done, [flagByte (s.profile i).valid]⟩
          { s with library := { s.library with profiles := amend s.library.profiles i fun _ => clean } })))
    ∧ (let dropped := allProfiles.filter fun i => (s.profile i).valid && !(s.profile i).locked && !inUse s i
      ∃ t, exec (.profilePurge tag []) s = .next (postReply ⟨tag, 34, .done, [byteOf dropped.length]⟩ t)
        ∧ (∀ i, t.profile i = if i ∈ dropped then clean else s.profile i)
        ∧ t = { s with library := { s.library with profiles := t.library.profiles } })

/-- RULE WRITE and RULE DEFAULT (R53, R55): one rule is replaced as a whole, bits outside the mask included; the default
action is set, and with REJECT the profile index carried is not checked. The contents of the two replies are the model's reading:
a rule's fields without its index, and the default action's two bytes (log 10). -/
def Obligations.RuleWriteAndDefault : Prop :=
  ∀ (tag : Byte) (s : State), placeFree s →
    (∀ (i : RuleIndex) (r : Rule),
      let fields := [flagByte r.enabled, ruleFieldByte r.field, operatorByte r.operator] ++ word32 r.mask
        ++ word32 r.value ++ [flagByte r.chain, actionByte r.action, byteOf r.profile.val]
      exec (.ruleWrite tag (byteOf i.val :: fields)) s = .next (postReply ⟨tag, 48, .done, fields⟩
        { s with matcher := { s.matcher with rules := amend s.matcher.rules i fun _ => r } }))
    ∧ (∀ p : ProfileIndex, exec (.ruleDefault tag [1, byteOf p.val]) s = .next
        (postReply ⟨tag, 50, .done, [1, byteOf p.val]⟩
          { s with matcher := { s.matcher with defaultAction := .assign p } }))
    ∧ ∀ p : Byte, exec (.ruleDefault tag [0, p]) s = .next
        (postReply ⟨tag, 50, .done, [0, 0]⟩ { s with matcher := { s.matcher with defaultAction := .reject } })

/-- STORE WRITE (R70): BAD_ARGUMENT, LOCKED and IN_USE in that order; otherwise exactly the bytes of the range take the
values carried, every other byte reads as before, and the store keeps its canonical form. -/
def Obligations.StoreWriteWritesRange : Prop :=
  ∀ (tag : Byte) (s : State) (o : Nat) (data : List Byte), placeFree s → o < 65536 → data.length < 256 →
    let received := exec (.storeWrite tag (be16 o ++ [byteOf data.length] ++ data)) s
    let legal := 1 ≤ data.length ∧ data.length ≤ 240 ∧ o ≤ 16383 ∧ o + data.length ≤ 16384
    (¬ legal → received = .next (postReply ⟨tag, 64, .refused .badArgument, []⟩ s))
    ∧ (legal → touchesLocked s ⟨o, data.length⟩ = true →
        received = .next (postReply ⟨tag, 64, .refused .locked, []⟩ s))
    ∧ (legal → touchesLocked s ⟨o, data.length⟩ = false → touchesInUse s ⟨o, data.length⟩ = true →
        received = .next (postReply ⟨tag, 64, .refused .inUse, []⟩ s))
    ∧ (legal → touchesLocked s ⟨o, data.length⟩ = false → touchesInUse s ⟨o, data.length⟩ = false →
        s.library.store.wf = true →
        ∃ t, received = .next (postReply ⟨tag, 64, .done, be16 o ++ [byteOf data.length]⟩ t)
          ∧ t = { s with library := { s.library with store := t.library.store } }
          ∧ t.library.store.wf = true
          ∧ (∀ i b, data[i]? = some b → t.library.store.read (o + i) = b)
          ∧ ∀ a, (a < o ∨ o + data.length ≤ a) → t.library.store.read a = s.library.store.read a)

/-! ## Rack settings, card access, resets -/

/-- RACK SET (R16, R74, R123, R124, R177, R178): the five checks in their order, then every value in force with five of them
clamped, the recheck mark, the gate at an opening of admission, and the re-evaluation at a raised budget, in that
order of the table of R178 (log 15). -/
def Obligations.RackSetPutsSettings : Prop :=
  ∀ (tag : Byte) (s : State) (r : RackSettings), placeFree s →
    r.period < 65536 → r.reserve < 65536 → r.budget < 65536 → r.missLimit < 256 → r.rampGrace < 256 →
    r.watchdog < 256 → r.insertionDebounce < 65536 → r.removalDebounce < 256 →
    let received := exec (.rackSet tag (settingsBytes r)) s
    let refusedAs := fun reason : Reason =>
      (.next (postReply ⟨tag, 80, .refused reason, settingsBytes s.settings⟩ s) : Host.Outcome State Fault Refusal)
    let inRange := 250 ≤ r.period ∧ r.period ≤ 10000
    let fitting := r.rate.minReserve ≤ r.reserve ∧ fits r s.maps.active.entries = true
      ∧ ∀ m, s.maps.offered = some m → fits r m.entries = true
    let busy := r.rate ≠ s.settings.rate ∧ s.service.inFlight.isSome = true
    let taken := { r with
      missLimit := max 1 (min r.missLimit 15), rampGrace := min r.rampGrace 15, watchdog := max 2 (min r.watchdog 255)
      insertionDebounce := max 10 (min r.insertionDebounce 500), removalDebounce := max 1 (min r.removalDebounce 50) }
    let opens := s.settings.admission = .closed ∧ r.admission = .opened
    let admitted := allSlots.filter fun k => (s.slot k).state == .present && (s.slot k).mode == .auto
    let recheck := s.maps.recheck || r.rate != s.settings.rate || r.period != s.settings.period
      || r.reserve != s.settings.reserve
    let base := { s with mgmt := { s.mgmt with settings := taken } }
    let answered := fun t : State =>
      (.next (postReply ⟨tag, 80, .done, settingsBytes taken⟩
        { t with maps := { t.maps with recheck := recheck } }) : Host.Outcome State Fault Refusal)
    (¬ inRange → received = refusedAs .badArgument)
    ∧ (inRange → ¬ fitting → received = refusedAs .noFit)
    ∧ (inRange → fitting → busy → received = refusedAs .busy)
    ∧ (inRange → fitting → ¬ busy → r.budget ≤ s.settings.budget → ¬ opens → received = answered base)
    ∧ (inRange → fitting → ¬ busy → s.settings.budget < r.budget → ¬ opens →
        received = answered (reevaluateClaims base))
    ∧ (inRange → fitting → ¬ busy → s.settings.budget < r.budget → opens →
        received = answered (eachSlot allSlots admissionGate (reevaluateClaims base)))
    ∧ (inRange → fitting → ¬ busy → r.budget ≤ s.settings.budget → opens → ∃ t, received = answered t
        ∧ (∀ k ∈ admitted, t.slot k = { s.slot k with state := .identifying }
            ∧ t.attempt k = some ⟨(s.slot k).epoch, 1⟩)
        ∧ t.mgmt.notices = admitted.foldl
            (fun queued k => queueNotice (.slot k .identifying (s.slot k).epoch none (s.cyc k).cardDiag) queued)
            s.mgmt.notices
        ∧ (∀ k, k ∉ admitted → t.slot k = s.slot k ∧ t.attempt k = s.attempt k)
        ∧ t.service = { s.service with
            queue := s.service.queue ++ admitted.map fun k => identRead k (s.slot k).epoch }
        ∧ t = { base with
            slots := t.slots, matcher := { s.matcher with attempts := t.matcher.attempts }, service := t.service
            mgmt := { base.mgmt with notices := t.mgmt.notices } })

/-- CARD READ and CARD WRITE of a legal length (R88, R106): WRONG_STATE unless RUNNING, BUSY with four outstanding,
otherwise outstanding with the slot's epoch, its transaction at the tail of the Service Queue, and no reply yet. -/
def Obligations.CardAccessOutstanding : Prop :=
  ∀ (tag q : Byte) (k : Slot) (s : State), placeFree s →
    let e := (s.slot k).epoch
    let accepted := fun (write : Bool) (x : Transaction) =>
      (.next { s with
        mgmt := { s.mgmt with outstanding := s.mgmt.outstanding ++ [⟨tag, k, e, write⟩] }
        service := { s.service with queue := s.service.queue ++ [x] } } : Host.Outcome State Fault Refusal)
    let outcome := fun (received : Host.Outcome State Fault Refusal) (code : Byte) (write : Bool) (x : Transaction) =>
      ((s.slot k).state ≠ .running → received = .next (postReply ⟨tag, code, .refused .wrongState, []⟩ s))
      ∧ ((s.slot k).state = .running → 4 ≤ s.mgmt.outstanding.length →
          received = .next (postReply ⟨tag, code, .refused .busy, []⟩ s))
      ∧ ((s.slot k).state = .running → s.mgmt.outstanding.length < 4 → received = accepted write x)
    (∀ n : Nat, 1 ≤ n → n ≤ 240 →
      outcome (exec (.cardRead tag [slotByte k, q, byteOf n]) s) 112 false
        { kind := .paramRead, origin := .passThrough, slot := k, epoch := e, parameter := some q, totalLength := n
          position := 0, repeatUsed := false, source := none, gathered := [], replyTag := some tag
          recordNumber := none })
    ∧ ∀ data : List Byte, 1 ≤ data.length → data.length ≤ 240 →
      outcome (exec (.cardWrite tag ([slotByte k, q, byteOf data.length] ++ data)) s) 113 true
        { kind := .paramWrite, origin := .passThrough, slot := k, epoch := e, parameter := some q
          totalLength := data.length, position := 0, repeatUsed := false, source := some (.carried data)
          gathered := [], replyTag := some tag, recordNumber := none }

/-- RESTART (R26, R38, R40, R56, R72, R87, R99, R145, R168, R176, R184, R196): every block as its chapter states, the
insertion debounces begun anew and the gate applied, then the reply DONE with generation 1 and IDLE. That a slot's move
to SETTLING comes before the gate is the model's reading (log 16), and so is that an exchange and a segment cut off stay
on the backplane (log 6); that waiting commands stay (log 1) and that the zeroed buffers are empty lists (log 18) is the
model's choice. -/
def Obligations.RestartSetsEveryBlock : Prop :=
  ∀ (tag : Byte) (s : State), placeFree s →
    let admitted := fun k : Slot =>
      (s.slot k).cardPresent && (s.slot k).mode == .auto && s.settings.admission == .opened
    let settling := fun k : Slot => !(s.slot k).cardPresent && (s.pres k).line
    ∃ t, exec (.restart tag []) s = .next (postReply ⟨tag, 128, .done, [0, 1, 0]⟩ t)
      ∧ (∀ k : Slot, t.slot k =
          { state := if (s.slot k).cardPresent then (if admitted k then .identifying else .present)
              else if (s.pres k).line then .settling else .empty
            mode := (s.slot k).mode, cardPresent := (s.slot k).cardPresent
            epoch := if (s.slot k).cardPresent then (s.slot k).epoch + 1 else (s.slot k).epoch
            identity := none, profileIndex := none, parkReason := none, faultReason := none, cardCode := none
            faultRun := 0, cleanRun := 0 })
      ∧ (∀ k : Slot, t.pres k = { s.pres k with
            phase := if (s.slot k).cardPresent then (if (s.pres k).line then .seated else .removing)
              else if (s.pres k).line then .inserting else .absent
            timer := if (s.slot k).cardPresent then
                (if (s.pres k).line then .stopped else .removal s.settings.removalDebounce)
              else if (s.pres k).line then .insertion s.settings.insertionDebounce (s.slot k).epoch else .stopped })
      ∧ (∀ k : Slot, t.attempt k = if admitted k then some ⟨(s.slot k).epoch + 1, 1⟩ else none)
      ∧ t.matcher.rules = s.matcher.rules ∧ t.matcher.defaultAction = s.matcher.defaultAction
      ∧ t.library = s.library
      ∧ (∀ k : Slot, t.pow k = { mainSupply := false, claim := none, rampTimer := none, filter := false
                                 monitoring := false, powerGood := (s.pow k).powerGood })
      ∧ t.power.waitList = [] ∧ t.power.rampQueue = [] ∧ t.power.arbiter = none
      ∧ t.service.queue = (allSlots.filter admitted).map (fun k => identRead k ((s.slot k).epoch + 1))
      ∧ t.service.inFlight = none ∧ (∀ k : Slot, t.download k = none)
      ∧ t.service.segment = s.service.segment.map (fun g => { g with live := false })
      ∧ t.maps = { active := { generation := 1, entries := [] }, offered := none, changes := [], waitList := []
                   recheck := false }
      ∧ t.cycle = { CycleEngine.reset with exchange := s.cycle.exchange.map fun x => { x with cut := true } }
      ∧ { t.mgmt with notices := [] } =
          { receiver := s.mgmt.receiver, settings := s.mgmt.settings, transmitter := s.mgmt.transmitter, notices := []
            returnLine := [], replyQueue := [], outstanding := []
            counters := { badCrc := 0, malformed := 0, mismatch := 0, short := 0, overlap := 0, long := 0
                          dropped := 0 } }
      ∧ (∀ k : Slot, (admitted k = true →
            ∃ n ∈ t.mgmt.notices, n.body = .slot k .identifying ((s.slot k).epoch + 1) none false)
          ∧ (settling k = true → ∃ n ∈ t.mgmt.notices, n.body = .slot k .settling (s.slot k).epoch none false))
      ∧ (∀ n ∈ t.mgmt.notices, ∃ k, subjectOf n.body = .slot k ∧ (admitted k = true ∨ settling k = true))
      ∧ t.pending = s.pending

/-- COLD_RESET (R25, R37, R56, R72, R86, R99, R110, R144, R167, R170, R176, R183): every block takes its reset values, and a
slot whose presence line is asserted enters SETTLING with its insertion debounce. That the levels of the input pins and the
commands that wait are kept is the model's choice (logs 5 and 1), and so is that the zeroed buffers are empty lists
(log 18). The order among the SETTLING notices, log 32, is not stated here. -/
def Obligations.ColdResetRedetects : Prop :=
  ∀ s : State, ∃ t, exec .coldReset s = .next t
    ∧ (∀ k : Slot, t.slot k = { State.reset.slot k with state := if (s.pres k).line then .settling else .empty })
    ∧ (∀ k : Slot, t.pres k =
        { phase := if (s.pres k).line then .inserting else .absent
          timer := if (s.pres k).line then .insertion 100 0 else .stopped
          line := (s.pres k).line, auxSupply := false })
    ∧ (∀ k : Slot, t.pow k = { State.reset.pow k with powerGood := (s.pow k).powerGood })
    ∧ t.power = { State.reset.power with slots := t.power.slots }
    ∧ t.matcher = State.reset.matcher ∧ t.library = State.reset.library ∧ t.service = State.reset.service
    ∧ t.maps = State.reset.maps ∧ t.cycle = State.reset.cycle
    ∧ { t.mgmt with notices := [] } = State.reset.mgmt
    ∧ (∀ k : Slot, (s.pres k).line = true → ∃ n ∈ t.mgmt.notices, n = ⟨1, .slot k .settling 0 none false⟩)
    ∧ (∀ n ∈ t.mgmt.notices, ∃ k, (s.pres k).line = true ∧ n.body = .slot k .settling 0 none false)
    ∧ t.pending = s.pending

end Statements
end

