-- ==== Sys2Proof/Laws/State.lean ====
section
/-!
SUPPORT. Reading after updating State: a table at an index, each field of State and each reader over each updater.
-/
namespace Sys2Proof.Machine

/-! ## Tables -/

@[simp] theorem look_amend_same {α : Type} {n : Nat} (t : Vector α n) (k : Fin n) (f : α → α) :
    look (amend t k f) k = f (look t k) := by
  simp [look, amend]

theorem look_amend_of_ne {α : Type} {n : Nat} (t : Vector α n) {j k : Fin n} (h : j ≠ k) (f : α → α) :
    look (amend t k f) j = look t j := by
  have : k.val ≠ j.val := fun e => h (Fin.ext e.symm)
  simp [look, amend, Vector.getElem_set_ne _ _ this]

theorem look_amend {α : Type} {n : Nat} (t : Vector α n) (j k : Fin n) (f : α → α) :
    look (amend t k f) j = if j = k then f (look t k) else look t j := by
  by_cases h : j = k
  · subst h; simp
  · simp [h, look_amend_of_ne t h f]

@[simp] theorem look_amendAll {α β : Type} {n : Nat} (t : Vector α n) (f : α → β) (k : Fin n) :
    look (amendAll t f) k = f (look t k) := by
  simp [look, amendAll]

@[simp] theorem look_replicate {α : Type} {n : Nat} (a : α) (k : Fin n) : look (Vector.replicate n a) k = a := by
  simp [look]

@[simp] theorem look_ofFn {α : Type} {n : Nat} (f : Fin n → α) (k : Fin n) : look (Vector.ofFn f) k = f k := by
  simp [look]

/-! ## Fields of State under each updater -/

variable (s : State)

@[simp] theorem State.modSlot_presence (k : Slot) (f : SlotRecord → SlotRecord) : (s.modSlot k f).presence = s.presence := rfl
@[simp] theorem State.modSlot_matcher (k : Slot) (f : SlotRecord → SlotRecord) : (s.modSlot k f).matcher = s.matcher := rfl
@[simp] theorem State.modSlot_library (k : Slot) (f : SlotRecord → SlotRecord) : (s.modSlot k f).library = s.library := rfl
@[simp] theorem State.modSlot_power (k : Slot) (f : SlotRecord → SlotRecord) : (s.modSlot k f).power = s.power := rfl
@[simp] theorem State.modSlot_service (k : Slot) (f : SlotRecord → SlotRecord) : (s.modSlot k f).service = s.service := rfl
@[simp] theorem State.modSlot_maps (k : Slot) (f : SlotRecord → SlotRecord) : (s.modSlot k f).maps = s.maps := rfl
@[simp] theorem State.modSlot_cycle (k : Slot) (f : SlotRecord → SlotRecord) : (s.modSlot k f).cycle = s.cycle := rfl
@[simp] theorem State.modSlot_mgmt (k : Slot) (f : SlotRecord → SlotRecord) : (s.modSlot k f).mgmt = s.mgmt := rfl
@[simp] theorem State.modSlot_pending (k : Slot) (f : SlotRecord → SlotRecord) : (s.modSlot k f).pending = s.pending := rfl

@[simp] theorem State.modPres_slots (k : Slot) (f : PresenceRecord → PresenceRecord) : (s.modPres k f).slots = s.slots := rfl
@[simp] theorem State.modPres_matcher (k : Slot) (f : PresenceRecord → PresenceRecord) : (s.modPres k f).matcher = s.matcher := rfl
@[simp] theorem State.modPres_library (k : Slot) (f : PresenceRecord → PresenceRecord) : (s.modPres k f).library = s.library := rfl
@[simp] theorem State.modPres_power (k : Slot) (f : PresenceRecord → PresenceRecord) : (s.modPres k f).power = s.power := rfl
@[simp] theorem State.modPres_service (k : Slot) (f : PresenceRecord → PresenceRecord) : (s.modPres k f).service = s.service := rfl
@[simp] theorem State.modPres_maps (k : Slot) (f : PresenceRecord → PresenceRecord) : (s.modPres k f).maps = s.maps := rfl
@[simp] theorem State.modPres_cycle (k : Slot) (f : PresenceRecord → PresenceRecord) : (s.modPres k f).cycle = s.cycle := rfl
@[simp] theorem State.modPres_mgmt (k : Slot) (f : PresenceRecord → PresenceRecord) : (s.modPres k f).mgmt = s.mgmt := rfl
@[simp] theorem State.modPres_pending (k : Slot) (f : PresenceRecord → PresenceRecord) : (s.modPres k f).pending = s.pending := rfl

@[simp] theorem State.setAttempt_slots (k : Slot) (a : Option Attempt) : (s.setAttempt k a).slots = s.slots := rfl
@[simp] theorem State.setAttempt_presence (k : Slot) (a : Option Attempt) : (s.setAttempt k a).presence = s.presence := rfl
@[simp] theorem State.setAttempt_library (k : Slot) (a : Option Attempt) : (s.setAttempt k a).library = s.library := rfl
@[simp] theorem State.setAttempt_power (k : Slot) (a : Option Attempt) : (s.setAttempt k a).power = s.power := rfl
@[simp] theorem State.setAttempt_service (k : Slot) (a : Option Attempt) : (s.setAttempt k a).service = s.service := rfl
@[simp] theorem State.setAttempt_maps (k : Slot) (a : Option Attempt) : (s.setAttempt k a).maps = s.maps := rfl
@[simp] theorem State.setAttempt_cycle (k : Slot) (a : Option Attempt) : (s.setAttempt k a).cycle = s.cycle := rfl
@[simp] theorem State.setAttempt_mgmt (k : Slot) (a : Option Attempt) : (s.setAttempt k a).mgmt = s.mgmt := rfl
@[simp] theorem State.setAttempt_pending (k : Slot) (a : Option Attempt) : (s.setAttempt k a).pending = s.pending := rfl

@[simp] theorem State.setProfile_slots (p : ProfileIndex) (r : Profile) : (s.setProfile p r).slots = s.slots := rfl
@[simp] theorem State.setProfile_presence (p : ProfileIndex) (r : Profile) : (s.setProfile p r).presence = s.presence := rfl
@[simp] theorem State.setProfile_matcher (p : ProfileIndex) (r : Profile) : (s.setProfile p r).matcher = s.matcher := rfl
@[simp] theorem State.setProfile_power (p : ProfileIndex) (r : Profile) : (s.setProfile p r).power = s.power := rfl
@[simp] theorem State.setProfile_service (p : ProfileIndex) (r : Profile) : (s.setProfile p r).service = s.service := rfl
@[simp] theorem State.setProfile_maps (p : ProfileIndex) (r : Profile) : (s.setProfile p r).maps = s.maps := rfl
@[simp] theorem State.setProfile_cycle (p : ProfileIndex) (r : Profile) : (s.setProfile p r).cycle = s.cycle := rfl
@[simp] theorem State.setProfile_mgmt (p : ProfileIndex) (r : Profile) : (s.setProfile p r).mgmt = s.mgmt := rfl
@[simp] theorem State.setProfile_pending (p : ProfileIndex) (r : Profile) : (s.setProfile p r).pending = s.pending := rfl

@[simp] theorem State.setStore_slots (m : Memory) : (s.setStore m).slots = s.slots := rfl
@[simp] theorem State.setStore_presence (m : Memory) : (s.setStore m).presence = s.presence := rfl
@[simp] theorem State.setStore_matcher (m : Memory) : (s.setStore m).matcher = s.matcher := rfl
@[simp] theorem State.setStore_power (m : Memory) : (s.setStore m).power = s.power := rfl
@[simp] theorem State.setStore_service (m : Memory) : (s.setStore m).service = s.service := rfl
@[simp] theorem State.setStore_maps (m : Memory) : (s.setStore m).maps = s.maps := rfl
@[simp] theorem State.setStore_cycle (m : Memory) : (s.setStore m).cycle = s.cycle := rfl
@[simp] theorem State.setStore_mgmt (m : Memory) : (s.setStore m).mgmt = s.mgmt := rfl
@[simp] theorem State.setStore_pending (m : Memory) : (s.setStore m).pending = s.pending := rfl

@[simp] theorem State.modPower_slots (f : PowerController → PowerController) : (s.modPower f).slots = s.slots := rfl
@[simp] theorem State.modPower_presence (f : PowerController → PowerController) : (s.modPower f).presence = s.presence := rfl
@[simp] theorem State.modPower_matcher (f : PowerController → PowerController) : (s.modPower f).matcher = s.matcher := rfl
@[simp] theorem State.modPower_library (f : PowerController → PowerController) : (s.modPower f).library = s.library := rfl
@[simp] theorem State.modPower_service (f : PowerController → PowerController) : (s.modPower f).service = s.service := rfl
@[simp] theorem State.modPower_maps (f : PowerController → PowerController) : (s.modPower f).maps = s.maps := rfl
@[simp] theorem State.modPower_cycle (f : PowerController → PowerController) : (s.modPower f).cycle = s.cycle := rfl
@[simp] theorem State.modPower_mgmt (f : PowerController → PowerController) : (s.modPower f).mgmt = s.mgmt := rfl
@[simp] theorem State.modPower_pending (f : PowerController → PowerController) : (s.modPower f).pending = s.pending := rfl

@[simp] theorem State.modPow_slots (k : Slot) (f : PowerRecord → PowerRecord) : (s.modPow k f).slots = s.slots := rfl
@[simp] theorem State.modPow_presence (k : Slot) (f : PowerRecord → PowerRecord) : (s.modPow k f).presence = s.presence := rfl
@[simp] theorem State.modPow_matcher (k : Slot) (f : PowerRecord → PowerRecord) : (s.modPow k f).matcher = s.matcher := rfl
@[simp] theorem State.modPow_library (k : Slot) (f : PowerRecord → PowerRecord) : (s.modPow k f).library = s.library := rfl
@[simp] theorem State.modPow_service (k : Slot) (f : PowerRecord → PowerRecord) : (s.modPow k f).service = s.service := rfl
@[simp] theorem State.modPow_maps (k : Slot) (f : PowerRecord → PowerRecord) : (s.modPow k f).maps = s.maps := rfl
@[simp] theorem State.modPow_cycle (k : Slot) (f : PowerRecord → PowerRecord) : (s.modPow k f).cycle = s.cycle := rfl
@[simp] theorem State.modPow_mgmt (k : Slot) (f : PowerRecord → PowerRecord) : (s.modPow k f).mgmt = s.mgmt := rfl
@[simp] theorem State.modPow_pending (k : Slot) (f : PowerRecord → PowerRecord) : (s.modPow k f).pending = s.pending := rfl

@[simp] theorem State.modService_slots (f : ServiceChannel → ServiceChannel) : (s.modService f).slots = s.slots := rfl
@[simp] theorem State.modService_presence (f : ServiceChannel → ServiceChannel) : (s.modService f).presence = s.presence := rfl
@[simp] theorem State.modService_matcher (f : ServiceChannel → ServiceChannel) : (s.modService f).matcher = s.matcher := rfl
@[simp] theorem State.modService_library (f : ServiceChannel → ServiceChannel) : (s.modService f).library = s.library := rfl
@[simp] theorem State.modService_power (f : ServiceChannel → ServiceChannel) : (s.modService f).power = s.power := rfl
@[simp] theorem State.modService_maps (f : ServiceChannel → ServiceChannel) : (s.modService f).maps = s.maps := rfl
@[simp] theorem State.modService_cycle (f : ServiceChannel → ServiceChannel) : (s.modService f).cycle = s.cycle := rfl
@[simp] theorem State.modService_mgmt (f : ServiceChannel → ServiceChannel) : (s.modService f).mgmt = s.mgmt := rfl
@[simp] theorem State.modService_pending (f : ServiceChannel → ServiceChannel) : (s.modService f).pending = s.pending := rfl

@[simp] theorem State.setDownload_slots (k : Slot) (d : Option Download) : (s.setDownload k d).slots = s.slots := rfl
@[simp] theorem State.setDownload_presence (k : Slot) (d : Option Download) : (s.setDownload k d).presence = s.presence := rfl
@[simp] theorem State.setDownload_matcher (k : Slot) (d : Option Download) : (s.setDownload k d).matcher = s.matcher := rfl
@[simp] theorem State.setDownload_library (k : Slot) (d : Option Download) : (s.setDownload k d).library = s.library := rfl
@[simp] theorem State.setDownload_power (k : Slot) (d : Option Download) : (s.setDownload k d).power = s.power := rfl
@[simp] theorem State.setDownload_maps (k : Slot) (d : Option Download) : (s.setDownload k d).maps = s.maps := rfl
@[simp] theorem State.setDownload_cycle (k : Slot) (d : Option Download) : (s.setDownload k d).cycle = s.cycle := rfl
@[simp] theorem State.setDownload_mgmt (k : Slot) (d : Option Download) : (s.setDownload k d).mgmt = s.mgmt := rfl
@[simp] theorem State.setDownload_pending (k : Slot) (d : Option Download) : (s.setDownload k d).pending = s.pending := rfl

@[simp] theorem State.modMaps_slots (f : MapBuilder → MapBuilder) : (s.modMaps f).slots = s.slots := rfl
@[simp] theorem State.modMaps_presence (f : MapBuilder → MapBuilder) : (s.modMaps f).presence = s.presence := rfl
@[simp] theorem State.modMaps_matcher (f : MapBuilder → MapBuilder) : (s.modMaps f).matcher = s.matcher := rfl
@[simp] theorem State.modMaps_library (f : MapBuilder → MapBuilder) : (s.modMaps f).library = s.library := rfl
@[simp] theorem State.modMaps_power (f : MapBuilder → MapBuilder) : (s.modMaps f).power = s.power := rfl
@[simp] theorem State.modMaps_service (f : MapBuilder → MapBuilder) : (s.modMaps f).service = s.service := rfl
@[simp] theorem State.modMaps_cycle (f : MapBuilder → MapBuilder) : (s.modMaps f).cycle = s.cycle := rfl
@[simp] theorem State.modMaps_mgmt (f : MapBuilder → MapBuilder) : (s.modMaps f).mgmt = s.mgmt := rfl
@[simp] theorem State.modMaps_pending (f : MapBuilder → MapBuilder) : (s.modMaps f).pending = s.pending := rfl

@[simp] theorem State.modCycle_slots (f : CycleEngine → CycleEngine) : (s.modCycle f).slots = s.slots := rfl
@[simp] theorem State.modCycle_presence (f : CycleEngine → CycleEngine) : (s.modCycle f).presence = s.presence := rfl
@[simp] theorem State.modCycle_matcher (f : CycleEngine → CycleEngine) : (s.modCycle f).matcher = s.matcher := rfl
@[simp] theorem State.modCycle_library (f : CycleEngine → CycleEngine) : (s.modCycle f).library = s.library := rfl
@[simp] theorem State.modCycle_power (f : CycleEngine → CycleEngine) : (s.modCycle f).power = s.power := rfl
@[simp] theorem State.modCycle_service (f : CycleEngine → CycleEngine) : (s.modCycle f).service = s.service := rfl
@[simp] theorem State.modCycle_maps (f : CycleEngine → CycleEngine) : (s.modCycle f).maps = s.maps := rfl
@[simp] theorem State.modCycle_mgmt (f : CycleEngine → CycleEngine) : (s.modCycle f).mgmt = s.mgmt := rfl
@[simp] theorem State.modCycle_pending (f : CycleEngine → CycleEngine) : (s.modCycle f).pending = s.pending := rfl

@[simp] theorem State.modCyc_slots (k : Slot) (f : CycleSlot → CycleSlot) : (s.modCyc k f).slots = s.slots := rfl
@[simp] theorem State.modCyc_presence (k : Slot) (f : CycleSlot → CycleSlot) : (s.modCyc k f).presence = s.presence := rfl
@[simp] theorem State.modCyc_matcher (k : Slot) (f : CycleSlot → CycleSlot) : (s.modCyc k f).matcher = s.matcher := rfl
@[simp] theorem State.modCyc_library (k : Slot) (f : CycleSlot → CycleSlot) : (s.modCyc k f).library = s.library := rfl
@[simp] theorem State.modCyc_power (k : Slot) (f : CycleSlot → CycleSlot) : (s.modCyc k f).power = s.power := rfl
@[simp] theorem State.modCyc_service (k : Slot) (f : CycleSlot → CycleSlot) : (s.modCyc k f).service = s.service := rfl
@[simp] theorem State.modCyc_maps (k : Slot) (f : CycleSlot → CycleSlot) : (s.modCyc k f).maps = s.maps := rfl
@[simp] theorem State.modCyc_mgmt (k : Slot) (f : CycleSlot → CycleSlot) : (s.modCyc k f).mgmt = s.mgmt := rfl
@[simp] theorem State.modCyc_pending (k : Slot) (f : CycleSlot → CycleSlot) : (s.modCyc k f).pending = s.pending := rfl

@[simp] theorem State.modMgmt_slots (f : Management → Management) : (s.modMgmt f).slots = s.slots := rfl
@[simp] theorem State.modMgmt_presence (f : Management → Management) : (s.modMgmt f).presence = s.presence := rfl
@[simp] theorem State.modMgmt_matcher (f : Management → Management) : (s.modMgmt f).matcher = s.matcher := rfl
@[simp] theorem State.modMgmt_library (f : Management → Management) : (s.modMgmt f).library = s.library := rfl
@[simp] theorem State.modMgmt_power (f : Management → Management) : (s.modMgmt f).power = s.power := rfl
@[simp] theorem State.modMgmt_service (f : Management → Management) : (s.modMgmt f).service = s.service := rfl
@[simp] theorem State.modMgmt_maps (f : Management → Management) : (s.modMgmt f).maps = s.maps := rfl
@[simp] theorem State.modMgmt_cycle (f : Management → Management) : (s.modMgmt f).cycle = s.cycle := rfl
@[simp] theorem State.modMgmt_pending (f : Management → Management) : (s.modMgmt f).pending = s.pending := rfl

/-! ## Readers under each updater -/

@[simp] theorem State.modSlot_pres (k : Slot) (f : SlotRecord → SlotRecord) (j : Slot) : (s.modSlot k f).pres j = s.pres j := rfl
@[simp] theorem State.modSlot_attempt (k : Slot) (f : SlotRecord → SlotRecord) (j : Slot) : (s.modSlot k f).attempt j = s.attempt j := rfl
@[simp] theorem State.modSlot_profile (k : Slot) (f : SlotRecord → SlotRecord) (i : ProfileIndex) : (s.modSlot k f).profile i = s.profile i := rfl
@[simp] theorem State.modSlot_pow (k : Slot) (f : SlotRecord → SlotRecord) (j : Slot) : (s.modSlot k f).pow j = s.pow j := rfl
@[simp] theorem State.modSlot_download (k : Slot) (f : SlotRecord → SlotRecord) (j : Slot) : (s.modSlot k f).download j = s.download j := rfl
@[simp] theorem State.modSlot_cyc (k : Slot) (f : SlotRecord → SlotRecord) (j : Slot) : (s.modSlot k f).cyc j = s.cyc j := rfl
@[simp] theorem State.modSlot_settings (k : Slot) (f : SlotRecord → SlotRecord) : (s.modSlot k f).settings = s.settings := rfl

@[simp] theorem State.modPres_slot (k : Slot) (f : PresenceRecord → PresenceRecord) (j : Slot) : (s.modPres k f).slot j = s.slot j := rfl
@[simp] theorem State.modPres_attempt (k : Slot) (f : PresenceRecord → PresenceRecord) (j : Slot) : (s.modPres k f).attempt j = s.attempt j := rfl
@[simp] theorem State.modPres_profile (k : Slot) (f : PresenceRecord → PresenceRecord) (i : ProfileIndex) : (s.modPres k f).profile i = s.profile i := rfl
@[simp] theorem State.modPres_pow (k : Slot) (f : PresenceRecord → PresenceRecord) (j : Slot) : (s.modPres k f).pow j = s.pow j := rfl
@[simp] theorem State.modPres_download (k : Slot) (f : PresenceRecord → PresenceRecord) (j : Slot) : (s.modPres k f).download j = s.download j := rfl
@[simp] theorem State.modPres_cyc (k : Slot) (f : PresenceRecord → PresenceRecord) (j : Slot) : (s.modPres k f).cyc j = s.cyc j := rfl
@[simp] theorem State.modPres_settings (k : Slot) (f : PresenceRecord → PresenceRecord) : (s.modPres k f).settings = s.settings := rfl

@[simp] theorem State.setAttempt_slot (k : Slot) (a : Option Attempt) (j : Slot) : (s.setAttempt k a).slot j = s.slot j := rfl
@[simp] theorem State.setAttempt_pres (k : Slot) (a : Option Attempt) (j : Slot) : (s.setAttempt k a).pres j = s.pres j := rfl
@[simp] theorem State.setAttempt_profile (k : Slot) (a : Option Attempt) (i : ProfileIndex) : (s.setAttempt k a).profile i = s.profile i := rfl
@[simp] theorem State.setAttempt_pow (k : Slot) (a : Option Attempt) (j : Slot) : (s.setAttempt k a).pow j = s.pow j := rfl
@[simp] theorem State.setAttempt_download (k : Slot) (a : Option Attempt) (j : Slot) : (s.setAttempt k a).download j = s.download j := rfl
@[simp] theorem State.setAttempt_cyc (k : Slot) (a : Option Attempt) (j : Slot) : (s.setAttempt k a).cyc j = s.cyc j := rfl
@[simp] theorem State.setAttempt_settings (k : Slot) (a : Option Attempt) : (s.setAttempt k a).settings = s.settings := rfl

@[simp] theorem State.setProfile_slot (p : ProfileIndex) (r : Profile) (j : Slot) : (s.setProfile p r).slot j = s.slot j := rfl
@[simp] theorem State.setProfile_pres (p : ProfileIndex) (r : Profile) (j : Slot) : (s.setProfile p r).pres j = s.pres j := rfl
@[simp] theorem State.setProfile_attempt (p : ProfileIndex) (r : Profile) (j : Slot) : (s.setProfile p r).attempt j = s.attempt j := rfl
@[simp] theorem State.setProfile_pow (p : ProfileIndex) (r : Profile) (j : Slot) : (s.setProfile p r).pow j = s.pow j := rfl
@[simp] theorem State.setProfile_download (p : ProfileIndex) (r : Profile) (j : Slot) : (s.setProfile p r).download j = s.download j := rfl
@[simp] theorem State.setProfile_cyc (p : ProfileIndex) (r : Profile) (j : Slot) : (s.setProfile p r).cyc j = s.cyc j := rfl
@[simp] theorem State.setProfile_settings (p : ProfileIndex) (r : Profile) : (s.setProfile p r).settings = s.settings := rfl

@[simp] theorem State.setStore_slot (m : Memory) (j : Slot) : (s.setStore m).slot j = s.slot j := rfl
@[simp] theorem State.setStore_pres (m : Memory) (j : Slot) : (s.setStore m).pres j = s.pres j := rfl
@[simp] theorem State.setStore_attempt (m : Memory) (j : Slot) : (s.setStore m).attempt j = s.attempt j := rfl
@[simp] theorem State.setStore_pow (m : Memory) (j : Slot) : (s.setStore m).pow j = s.pow j := rfl
@[simp] theorem State.setStore_download (m : Memory) (j : Slot) : (s.setStore m).download j = s.download j := rfl
@[simp] theorem State.setStore_cyc (m : Memory) (j : Slot) : (s.setStore m).cyc j = s.cyc j := rfl
@[simp] theorem State.setStore_settings (m : Memory) : (s.setStore m).settings = s.settings := rfl

@[simp] theorem State.modPower_slot (f : PowerController → PowerController) (j : Slot) : (s.modPower f).slot j = s.slot j := rfl
@[simp] theorem State.modPower_pres (f : PowerController → PowerController) (j : Slot) : (s.modPower f).pres j = s.pres j := rfl
@[simp] theorem State.modPower_attempt (f : PowerController → PowerController) (j : Slot) : (s.modPower f).attempt j = s.attempt j := rfl
@[simp] theorem State.modPower_profile (f : PowerController → PowerController) (i : ProfileIndex) : (s.modPower f).profile i = s.profile i := rfl
@[simp] theorem State.modPower_download (f : PowerController → PowerController) (j : Slot) : (s.modPower f).download j = s.download j := rfl
@[simp] theorem State.modPower_cyc (f : PowerController → PowerController) (j : Slot) : (s.modPower f).cyc j = s.cyc j := rfl
@[simp] theorem State.modPower_settings (f : PowerController → PowerController) : (s.modPower f).settings = s.settings := rfl

@[simp] theorem State.modPow_slot (k : Slot) (f : PowerRecord → PowerRecord) (j : Slot) : (s.modPow k f).slot j = s.slot j := rfl
@[simp] theorem State.modPow_pres (k : Slot) (f : PowerRecord → PowerRecord) (j : Slot) : (s.modPow k f).pres j = s.pres j := rfl
@[simp] theorem State.modPow_attempt (k : Slot) (f : PowerRecord → PowerRecord) (j : Slot) : (s.modPow k f).attempt j = s.attempt j := rfl
@[simp] theorem State.modPow_profile (k : Slot) (f : PowerRecord → PowerRecord) (i : ProfileIndex) : (s.modPow k f).profile i = s.profile i := rfl
@[simp] theorem State.modPow_download (k : Slot) (f : PowerRecord → PowerRecord) (j : Slot) : (s.modPow k f).download j = s.download j := rfl
@[simp] theorem State.modPow_cyc (k : Slot) (f : PowerRecord → PowerRecord) (j : Slot) : (s.modPow k f).cyc j = s.cyc j := rfl
@[simp] theorem State.modPow_settings (k : Slot) (f : PowerRecord → PowerRecord) : (s.modPow k f).settings = s.settings := rfl

@[simp] theorem State.modService_slot (f : ServiceChannel → ServiceChannel) (j : Slot) : (s.modService f).slot j = s.slot j := rfl
@[simp] theorem State.modService_pres (f : ServiceChannel → ServiceChannel) (j : Slot) : (s.modService f).pres j = s.pres j := rfl
@[simp] theorem State.modService_attempt (f : ServiceChannel → ServiceChannel) (j : Slot) : (s.modService f).attempt j = s.attempt j := rfl
@[simp] theorem State.modService_profile (f : ServiceChannel → ServiceChannel) (i : ProfileIndex) : (s.modService f).profile i = s.profile i := rfl
@[simp] theorem State.modService_pow (f : ServiceChannel → ServiceChannel) (j : Slot) : (s.modService f).pow j = s.pow j := rfl
@[simp] theorem State.modService_cyc (f : ServiceChannel → ServiceChannel) (j : Slot) : (s.modService f).cyc j = s.cyc j := rfl
@[simp] theorem State.modService_settings (f : ServiceChannel → ServiceChannel) : (s.modService f).settings = s.settings := rfl

@[simp] theorem State.setDownload_slot (k : Slot) (d : Option Download) (j : Slot) : (s.setDownload k d).slot j = s.slot j := rfl
@[simp] theorem State.setDownload_pres (k : Slot) (d : Option Download) (j : Slot) : (s.setDownload k d).pres j = s.pres j := rfl
@[simp] theorem State.setDownload_attempt (k : Slot) (d : Option Download) (j : Slot) : (s.setDownload k d).attempt j = s.attempt j := rfl
@[simp] theorem State.setDownload_profile (k : Slot) (d : Option Download) (i : ProfileIndex) : (s.setDownload k d).profile i = s.profile i := rfl
@[simp] theorem State.setDownload_pow (k : Slot) (d : Option Download) (j : Slot) : (s.setDownload k d).pow j = s.pow j := rfl
@[simp] theorem State.setDownload_cyc (k : Slot) (d : Option Download) (j : Slot) : (s.setDownload k d).cyc j = s.cyc j := rfl
@[simp] theorem State.setDownload_settings (k : Slot) (d : Option Download) : (s.setDownload k d).settings = s.settings := rfl

@[simp] theorem State.modMaps_slot (f : MapBuilder → MapBuilder) (j : Slot) : (s.modMaps f).slot j = s.slot j := rfl
@[simp] theorem State.modMaps_pres (f : MapBuilder → MapBuilder) (j : Slot) : (s.modMaps f).pres j = s.pres j := rfl
@[simp] theorem State.modMaps_attempt (f : MapBuilder → MapBuilder) (j : Slot) : (s.modMaps f).attempt j = s.attempt j := rfl
@[simp] theorem State.modMaps_profile (f : MapBuilder → MapBuilder) (i : ProfileIndex) : (s.modMaps f).profile i = s.profile i := rfl
@[simp] theorem State.modMaps_pow (f : MapBuilder → MapBuilder) (j : Slot) : (s.modMaps f).pow j = s.pow j := rfl
@[simp] theorem State.modMaps_download (f : MapBuilder → MapBuilder) (j : Slot) : (s.modMaps f).download j = s.download j := rfl
@[simp] theorem State.modMaps_cyc (f : MapBuilder → MapBuilder) (j : Slot) : (s.modMaps f).cyc j = s.cyc j := rfl
@[simp] theorem State.modMaps_settings (f : MapBuilder → MapBuilder) : (s.modMaps f).settings = s.settings := rfl

@[simp] theorem State.modCycle_slot (f : CycleEngine → CycleEngine) (j : Slot) : (s.modCycle f).slot j = s.slot j := rfl
@[simp] theorem State.modCycle_pres (f : CycleEngine → CycleEngine) (j : Slot) : (s.modCycle f).pres j = s.pres j := rfl
@[simp] theorem State.modCycle_attempt (f : CycleEngine → CycleEngine) (j : Slot) : (s.modCycle f).attempt j = s.attempt j := rfl
@[simp] theorem State.modCycle_profile (f : CycleEngine → CycleEngine) (i : ProfileIndex) : (s.modCycle f).profile i = s.profile i := rfl
@[simp] theorem State.modCycle_pow (f : CycleEngine → CycleEngine) (j : Slot) : (s.modCycle f).pow j = s.pow j := rfl
@[simp] theorem State.modCycle_download (f : CycleEngine → CycleEngine) (j : Slot) : (s.modCycle f).download j = s.download j := rfl
@[simp] theorem State.modCycle_settings (f : CycleEngine → CycleEngine) : (s.modCycle f).settings = s.settings := rfl

@[simp] theorem State.modCyc_slot (k : Slot) (f : CycleSlot → CycleSlot) (j : Slot) : (s.modCyc k f).slot j = s.slot j := rfl
@[simp] theorem State.modCyc_pres (k : Slot) (f : CycleSlot → CycleSlot) (j : Slot) : (s.modCyc k f).pres j = s.pres j := rfl
@[simp] theorem State.modCyc_attempt (k : Slot) (f : CycleSlot → CycleSlot) (j : Slot) : (s.modCyc k f).attempt j = s.attempt j := rfl
@[simp] theorem State.modCyc_profile (k : Slot) (f : CycleSlot → CycleSlot) (i : ProfileIndex) : (s.modCyc k f).profile i = s.profile i := rfl
@[simp] theorem State.modCyc_pow (k : Slot) (f : CycleSlot → CycleSlot) (j : Slot) : (s.modCyc k f).pow j = s.pow j := rfl
@[simp] theorem State.modCyc_download (k : Slot) (f : CycleSlot → CycleSlot) (j : Slot) : (s.modCyc k f).download j = s.download j := rfl
@[simp] theorem State.modCyc_settings (k : Slot) (f : CycleSlot → CycleSlot) : (s.modCyc k f).settings = s.settings := rfl

@[simp] theorem State.modMgmt_slot (f : Management → Management) (j : Slot) : (s.modMgmt f).slot j = s.slot j := rfl
@[simp] theorem State.modMgmt_pres (f : Management → Management) (j : Slot) : (s.modMgmt f).pres j = s.pres j := rfl
@[simp] theorem State.modMgmt_attempt (f : Management → Management) (j : Slot) : (s.modMgmt f).attempt j = s.attempt j := rfl
@[simp] theorem State.modMgmt_profile (f : Management → Management) (i : ProfileIndex) : (s.modMgmt f).profile i = s.profile i := rfl
@[simp] theorem State.modMgmt_pow (f : Management → Management) (j : Slot) : (s.modMgmt f).pow j = s.pow j := rfl
@[simp] theorem State.modMgmt_download (f : Management → Management) (j : Slot) : (s.modMgmt f).download j = s.download j := rfl
@[simp] theorem State.modMgmt_cyc (f : Management → Management) (j : Slot) : (s.modMgmt f).cyc j = s.cyc j := rfl

/-! ## Each updater read back -/

@[simp] theorem State.modSlot_slot_same (k : Slot) (f : SlotRecord → SlotRecord) :
    (s.modSlot k f).slot k = f (s.slot k) := look_amend_same ..
theorem State.modSlot_slot_of_ne {j k : Slot} (h : j ≠ k) (f : SlotRecord → SlotRecord) :
    (s.modSlot k f).slot j = s.slot j := look_amend_of_ne _ h f
theorem State.modSlot_slot (j k : Slot) (f : SlotRecord → SlotRecord) :
    (s.modSlot k f).slot j = if j = k then f (s.slot k) else s.slot j := look_amend ..

@[simp] theorem State.modPres_pres_same (k : Slot) (f : PresenceRecord → PresenceRecord) :
    (s.modPres k f).pres k = f (s.pres k) := look_amend_same ..
theorem State.modPres_pres_of_ne {j k : Slot} (h : j ≠ k) (f : PresenceRecord → PresenceRecord) :
    (s.modPres k f).pres j = s.pres j := look_amend_of_ne _ h f

@[simp] theorem State.setAttempt_attempt_same (k : Slot) (a : Option Attempt) : (s.setAttempt k a).attempt k = a :=
  look_amend_same ..
theorem State.setAttempt_attempt_of_ne {j k : Slot} (h : j ≠ k) (a : Option Attempt) :
    (s.setAttempt k a).attempt j = s.attempt j := look_amend_of_ne _ h _
@[simp] theorem State.setAttempt_rules (k : Slot) (a : Option Attempt) :
    (s.setAttempt k a).matcher.rules = s.matcher.rules := rfl
@[simp] theorem State.setAttempt_defaultAction (k : Slot) (a : Option Attempt) :
    (s.setAttempt k a).matcher.defaultAction = s.matcher.defaultAction := rfl

@[simp] theorem State.setProfile_profile_same (p : ProfileIndex) (r : Profile) : (s.setProfile p r).profile p = r :=
  look_amend_same ..
theorem State.setProfile_profile_of_ne {i p : ProfileIndex} (h : i ≠ p) (r : Profile) :
    (s.setProfile p r).profile i = s.profile i := look_amend_of_ne _ h _
@[simp] theorem State.setProfile_store (p : ProfileIndex) (r : Profile) :
    (s.setProfile p r).library.store = s.library.store := rfl

@[simp] theorem State.setStore_store (m : Memory) : (s.setStore m).library.store = m := rfl
@[simp] theorem State.setStore_profile (m : Memory) (i : ProfileIndex) : (s.setStore m).profile i = s.profile i := rfl

@[simp] theorem State.modPower_power (f : PowerController → PowerController) : (s.modPower f).power = f s.power := rfl
@[simp] theorem State.modPow_pow_same (k : Slot) (f : PowerRecord → PowerRecord) :
    (s.modPow k f).pow k = f (s.pow k) := look_amend_same ..
theorem State.modPow_pow_of_ne {j k : Slot} (h : j ≠ k) (f : PowerRecord → PowerRecord) :
    (s.modPow k f).pow j = s.pow j := look_amend_of_ne _ h f
@[simp] theorem State.modPow_waitList (k : Slot) (f : PowerRecord → PowerRecord) :
    (s.modPow k f).power.waitList = s.power.waitList := rfl
@[simp] theorem State.modPow_rampQueue (k : Slot) (f : PowerRecord → PowerRecord) :
    (s.modPow k f).power.rampQueue = s.power.rampQueue := rfl
@[simp] theorem State.modPow_arbiter (k : Slot) (f : PowerRecord → PowerRecord) :
    (s.modPow k f).power.arbiter = s.power.arbiter := rfl

@[simp] theorem State.modService_service (f : ServiceChannel → ServiceChannel) :
    (s.modService f).service = f s.service := rfl
@[simp] theorem State.setDownload_download_same (k : Slot) (d : Option Download) : (s.setDownload k d).download k = d :=
  look_amend_same ..
theorem State.setDownload_download_of_ne {j k : Slot} (h : j ≠ k) (d : Option Download) :
    (s.setDownload k d).download j = s.download j := look_amend_of_ne _ h _
@[simp] theorem State.setDownload_queue (k : Slot) (d : Option Download) :
    (s.setDownload k d).service.queue = s.service.queue := rfl
@[simp] theorem State.setDownload_inFlight (k : Slot) (d : Option Download) :
    (s.setDownload k d).service.inFlight = s.service.inFlight := rfl
@[simp] theorem State.setDownload_segment (k : Slot) (d : Option Download) :
    (s.setDownload k d).service.segment = s.service.segment := rfl

@[simp] theorem State.modMaps_maps (f : MapBuilder → MapBuilder) : (s.modMaps f).maps = f s.maps := rfl
@[simp] theorem State.modCycle_cycle (f : CycleEngine → CycleEngine) : (s.modCycle f).cycle = f s.cycle := rfl
@[simp] theorem State.modCyc_cyc_same (k : Slot) (f : CycleSlot → CycleSlot) :
    (s.modCyc k f).cyc k = f (s.cyc k) := look_amend_same ..
theorem State.modCyc_cyc_of_ne {j k : Slot} (h : j ≠ k) (f : CycleSlot → CycleSlot) :
    (s.modCyc k f).cyc j = s.cyc j := look_amend_of_ne _ h f
@[simp] theorem State.modMgmt_mgmt (f : Management → Management) : (s.modMgmt f).mgmt = f s.mgmt := rfl

/-! ## Runs over slots -/

/-- What an action keeps for each slot of a list, a run over the list keeps. -/
theorem eachSlot_keeps {P : State → Prop} {act : Slot → State → State} (ks : List Slot)
    (keep : ∀ k ∈ ks, ∀ u, P u → P (act k u)) (s : State) (h : P s) : P (eachSlot ks act s) := by
  induction ks generalizing s with
  | nil => exact h
  | cons k rest ih =>
    exact ih (fun j hj => keep j (List.mem_cons_of_mem k hj)) _ (keep k List.mem_cons_self s h)

/-- What an action leaves of a state, a run over slots leaves. -/
theorem eachSlot_same {β : Type} (view : State → β) {act : Slot → State → State} (ks : List Slot)
    (same : ∀ k u, view (act k u) = view u) (s : State) : view (eachSlot ks act s) = view s :=
  eachSlot_keeps (P := fun u => view u = view s) ks (fun k _ u h => (same k u).trans h) s rfl

end Sys2Proof.Machine
end

