-- ==== Sys2Proof/Laws/Ops.lean ====
section
/-!
SUPPORT. The shared operations: what each can do, said once, and what each leaves alone.
-/
namespace Sys2Proof.Machine

/-! ## The upstream transmitter -/

/-- The choice of the next frame (R171). -/
theorem startUpstream_cases (m : Management) :
    (∃ r rest, m.returnLine = r :: rest
        ∧ startUpstream m = { m with transmitter := .sendingReturn r.wire, returnLine := rest })
      ∨ (∃ r rest, m.returnLine = [] ∧ m.replyQueue = r :: rest
        ∧ startUpstream m = { m with transmitter := .sendingReply r.wire, replyQueue := rest })
      ∨ (m.returnLine = [] ∧ m.replyQueue = [] ∧ startUpstream m = { m with transmitter := .idle }) := by
  unfold startUpstream
  split
  · rename_i r rest h; exact .inl ⟨r, rest, h, rfl⟩
  · rename_i r rest h1 h2; exact .inr (.inl ⟨r, rest, h1, h2, rfl⟩)
  · rename_i h1 h2; exact .inr (.inr ⟨h1, h2, rfl⟩)

@[simp] theorem startUpstream_settings (m : Management) : (startUpstream m).settings = m.settings := by
  unfold startUpstream; split <;> rfl

@[simp] theorem kickUpstream_settings (m : Management) : (kickUpstream m).settings = m.settings := by
  unfold kickUpstream; split
  · exact startUpstream_settings m
  · rfl

@[simp] theorem startUpstream_counters (m : Management) : (startUpstream m).counters = m.counters := by
  unfold startUpstream; split <;> rfl

@[simp] theorem kickUpstream_counters (m : Management) : (kickUpstream m).counters = m.counters := by
  unfold kickUpstream; split
  · exact startUpstream_counters m
  · rfl

@[simp] theorem startUpstream_notices (m : Management) : (startUpstream m).notices = m.notices := by
  unfold startUpstream; split <;> rfl

@[simp] theorem kickUpstream_notices (m : Management) : (kickUpstream m).notices = m.notices := by
  unfold kickUpstream; split
  · exact startUpstream_notices m
  · rfl

@[simp] theorem startUpstream_outstanding (m : Management) : (startUpstream m).outstanding = m.outstanding := by
  unfold startUpstream; split <;> rfl

@[simp] theorem kickUpstream_outstanding (m : Management) : (kickUpstream m).outstanding = m.outstanding := by
  unfold kickUpstream; split
  · exact startUpstream_outstanding m
  · rfl

/-! ## Requests -/

/-- A request is dropped for want of a place, answered at once, or left outstanding (R173, R175). -/
theorem takeRequest_cases (tag code : Byte) (serve : State → State × Option Answer) (s : State) :
    (8 ≤ placesTaken s.mgmt
        ∧ takeRequest tag code serve s = modCounters (fun c => { c with dropped := countUp c.dropped }) s)
      ∨ (placesTaken s.mgmt < 8 ∧ ∃ t a, serve s = (t, some a)
        ∧ takeRequest tag code serve s = postReply ⟨tag, code, a.result, a.contents⟩ t)
      ∨ (placesTaken s.mgmt < 8 ∧ ∃ t, serve s = (t, none) ∧ takeRequest tag code serve s = t) := by
  unfold takeRequest
  split
  · rename_i h; exact .inl ⟨h, rfl⟩
  · rename_i h
    have h' : placesTaken s.mgmt < 8 := by simpa [Config.replyPlaces] using h
    split
    · rename_i t a e; exact .inr (.inl ⟨h', t, a, e, rfl⟩)
    · rename_i t e; exact .inr (.inr ⟨h', t, e, rfl⟩)

/-! ## Notices -/

/-- A posting updates the queued notice of its subject in place, or joins the tail with count 1 (R181). -/
theorem queueNotice_cases (b : NoticeBody) (q : List Notice) :
    (∃ front n back, q = front ++ n :: back ∧ subjectOf n.body = subjectOf b
        ∧ (∀ m ∈ front, subjectOf m.body ≠ subjectOf b)
        ∧ queueNotice b q = front ++ ⟨min 255 (n.count + 1), b⟩ :: back)
      ∨ ((∀ m ∈ q, subjectOf m.body ≠ subjectOf b) ∧ queueNotice b q = q ++ [⟨1, b⟩]) := by
  induction q with
  | nil => exact .inr ⟨by simp, rfl⟩
  | cons n rest ih =>
    simp only [queueNotice]
    split
    · rename_i h; exact .inl ⟨[], n, rest, rfl, h, by simp, rfl⟩
    · rename_i h
      rcases ih with ⟨front, m, back, e, hs, hf, hq⟩ | ⟨hn, hq⟩
      · refine .inl ⟨n :: front, m, back, by rw [e]; rfl, hs, ?_, by rw [hq]; rfl⟩
        intro x hx
        rcases List.mem_cons.mp hx with rfl | hx
        · exact h
        · exact hf x hx
      · refine .inr ⟨?_, by rw [hq]; rfl⟩
        intro x hx
        rcases List.mem_cons.mp hx with rfl | hx
        · exact h
        · exact hn x hx

/-! ## What each operation leaves alone -/

variable (s : State)

@[simp] theorem postNotice_slots (b : NoticeBody) : (postNotice b s).slots = s.slots := rfl
@[simp] theorem postNotice_presence (b : NoticeBody) : (postNotice b s).presence = s.presence := rfl
@[simp] theorem postNotice_matcher (b : NoticeBody) : (postNotice b s).matcher = s.matcher := rfl
@[simp] theorem postNotice_library (b : NoticeBody) : (postNotice b s).library = s.library := rfl
@[simp] theorem postNotice_power (b : NoticeBody) : (postNotice b s).power = s.power := rfl
@[simp] theorem postNotice_service (b : NoticeBody) : (postNotice b s).service = s.service := rfl
@[simp] theorem postNotice_maps (b : NoticeBody) : (postNotice b s).maps = s.maps := rfl
@[simp] theorem postNotice_cycle (b : NoticeBody) : (postNotice b s).cycle = s.cycle := rfl
@[simp] theorem postNotice_pending (b : NoticeBody) : (postNotice b s).pending = s.pending := rfl
@[simp] theorem postNotice_notices (b : NoticeBody) : (postNotice b s).mgmt.notices = queueNotice b s.mgmt.notices := rfl
@[simp] theorem postNotice_settings (b : NoticeBody) : (postNotice b s).settings = s.settings := rfl

@[simp] theorem postSlotNotice_slots (k : Slot) : (postSlotNotice k s).slots = s.slots := rfl
@[simp] theorem postSlotNotice_presence (k : Slot) : (postSlotNotice k s).presence = s.presence := rfl
@[simp] theorem postSlotNotice_matcher (k : Slot) : (postSlotNotice k s).matcher = s.matcher := rfl
@[simp] theorem postSlotNotice_library (k : Slot) : (postSlotNotice k s).library = s.library := rfl
@[simp] theorem postSlotNotice_power (k : Slot) : (postSlotNotice k s).power = s.power := rfl
@[simp] theorem postSlotNotice_service (k : Slot) : (postSlotNotice k s).service = s.service := rfl
@[simp] theorem postSlotNotice_maps (k : Slot) : (postSlotNotice k s).maps = s.maps := rfl
@[simp] theorem postSlotNotice_cycle (k : Slot) : (postSlotNotice k s).cycle = s.cycle := rfl
@[simp] theorem postSlotNotice_pending (k : Slot) : (postSlotNotice k s).pending = s.pending := rfl
@[simp] theorem postSlotNotice_notices (k : Slot) :
    (postSlotNotice k s).mgmt.notices = queueNotice (slotNotice s k) s.mgmt.notices := rfl
@[simp] theorem postSlotNotice_settings (k : Slot) : (postSlotNotice k s).settings = s.settings := rfl

@[simp] theorem enterState_presence (k : Slot) (x : SlotState) : (enterState k x s).presence = s.presence := rfl
@[simp] theorem enterState_matcher (k : Slot) (x : SlotState) : (enterState k x s).matcher = s.matcher := rfl
@[simp] theorem enterState_library (k : Slot) (x : SlotState) : (enterState k x s).library = s.library := rfl
@[simp] theorem enterState_power (k : Slot) (x : SlotState) : (enterState k x s).power = s.power := rfl
@[simp] theorem enterState_service (k : Slot) (x : SlotState) : (enterState k x s).service = s.service := rfl
@[simp] theorem enterState_maps (k : Slot) (x : SlotState) : (enterState k x s).maps = s.maps := rfl
@[simp] theorem enterState_cycle (k : Slot) (x : SlotState) : (enterState k x s).cycle = s.cycle := rfl
@[simp] theorem enterState_pending (k : Slot) (x : SlotState) : (enterState k x s).pending = s.pending := rfl
@[simp] theorem enterState_slots (k : Slot) (x : SlotState) :
    (enterState k x s).slots = amend s.slots k fun r => { r with state := x } := rfl
@[simp] theorem enterState_settings (k : Slot) (x : SlotState) : (enterState k x s).settings = s.settings := rfl
@[simp] theorem enterState_slot_same (k : Slot) (x : SlotState) :
    (enterState k x s).slot k = { s.slot k with state := x } := look_amend_same ..
theorem enterState_slot_of_ne {j k : Slot} (h : j ≠ k) (x : SlotState) : (enterState k x s).slot j = s.slot j :=
  look_amend_of_ne _ h _

@[simp] theorem modCounters_slots (f : LinkCounters → LinkCounters) : (modCounters f s).slots = s.slots := rfl
@[simp] theorem modCounters_presence (f : LinkCounters → LinkCounters) : (modCounters f s).presence = s.presence := rfl
@[simp] theorem modCounters_matcher (f : LinkCounters → LinkCounters) : (modCounters f s).matcher = s.matcher := rfl
@[simp] theorem modCounters_library (f : LinkCounters → LinkCounters) : (modCounters f s).library = s.library := rfl
@[simp] theorem modCounters_power (f : LinkCounters → LinkCounters) : (modCounters f s).power = s.power := rfl
@[simp] theorem modCounters_service (f : LinkCounters → LinkCounters) : (modCounters f s).service = s.service := rfl
@[simp] theorem modCounters_maps (f : LinkCounters → LinkCounters) : (modCounters f s).maps = s.maps := rfl
@[simp] theorem modCounters_cycle (f : LinkCounters → LinkCounters) : (modCounters f s).cycle = s.cycle := rfl
@[simp] theorem modCounters_pending (f : LinkCounters → LinkCounters) : (modCounters f s).pending = s.pending := rfl
@[simp] theorem modCounters_notices (f : LinkCounters → LinkCounters) : (modCounters f s).mgmt.notices = s.mgmt.notices := rfl
@[simp] theorem modCounters_settings (f : LinkCounters → LinkCounters) : (modCounters f s).settings = s.settings := rfl

@[simp] theorem postReply_slots (r : ReplyFrame) : (postReply r s).slots = s.slots := rfl
@[simp] theorem postReply_presence (r : ReplyFrame) : (postReply r s).presence = s.presence := rfl
@[simp] theorem postReply_matcher (r : ReplyFrame) : (postReply r s).matcher = s.matcher := rfl
@[simp] theorem postReply_library (r : ReplyFrame) : (postReply r s).library = s.library := rfl
@[simp] theorem postReply_power (r : ReplyFrame) : (postReply r s).power = s.power := rfl
@[simp] theorem postReply_service (r : ReplyFrame) : (postReply r s).service = s.service := rfl
@[simp] theorem postReply_maps (r : ReplyFrame) : (postReply r s).maps = s.maps := rfl
@[simp] theorem postReply_cycle (r : ReplyFrame) : (postReply r s).cycle = s.cycle := rfl
@[simp] theorem postReply_pending (r : ReplyFrame) : (postReply r s).pending = s.pending := rfl
@[simp] theorem postReply_mgmt_settings (r : ReplyFrame) : (postReply r s).mgmt.settings = s.mgmt.settings :=
  kickUpstream_settings _
@[simp] theorem postReply_mgmt_counters (r : ReplyFrame) : (postReply r s).mgmt.counters = s.mgmt.counters :=
  kickUpstream_counters _
@[simp] theorem postReply_mgmt_notices (r : ReplyFrame) : (postReply r s).mgmt.notices = s.mgmt.notices :=
  kickUpstream_notices _
@[simp] theorem postReply_mgmt_outstanding (r : ReplyFrame) : (postReply r s).mgmt.outstanding = s.mgmt.outstanding :=
  kickUpstream_outstanding _

@[simp] theorem postReturn_slots (r : ReturnFrame) : (postReturn r s).slots = s.slots := rfl
@[simp] theorem postReturn_presence (r : ReturnFrame) : (postReturn r s).presence = s.presence := rfl
@[simp] theorem postReturn_matcher (r : ReturnFrame) : (postReturn r s).matcher = s.matcher := rfl
@[simp] theorem postReturn_library (r : ReturnFrame) : (postReturn r s).library = s.library := rfl
@[simp] theorem postReturn_power (r : ReturnFrame) : (postReturn r s).power = s.power := rfl
@[simp] theorem postReturn_service (r : ReturnFrame) : (postReturn r s).service = s.service := rfl
@[simp] theorem postReturn_maps (r : ReturnFrame) : (postReturn r s).maps = s.maps := rfl
@[simp] theorem postReturn_cycle (r : ReturnFrame) : (postReturn r s).cycle = s.cycle := rfl
@[simp] theorem postReturn_pending (r : ReturnFrame) : (postReturn r s).pending = s.pending := rfl
@[simp] theorem postReturn_mgmt_settings (r : ReturnFrame) : (postReturn r s).mgmt.settings = s.mgmt.settings :=
  kickUpstream_settings _
@[simp] theorem postReturn_mgmt_counters (r : ReturnFrame) : (postReturn r s).mgmt.counters = s.mgmt.counters :=
  kickUpstream_counters _
@[simp] theorem postReturn_mgmt_notices (r : ReturnFrame) : (postReturn r s).mgmt.notices = s.mgmt.notices :=
  kickUpstream_notices _
@[simp] theorem postReturn_mgmt_outstanding (r : ReturnFrame) : (postReturn r s).mgmt.outstanding = s.mgmt.outstanding :=
  kickUpstream_outstanding _

@[simp] theorem queueTransaction_slots (x : Transaction) : (queueTransaction x s).slots = s.slots := rfl
@[simp] theorem queueTransaction_presence (x : Transaction) : (queueTransaction x s).presence = s.presence := rfl
@[simp] theorem queueTransaction_matcher (x : Transaction) : (queueTransaction x s).matcher = s.matcher := rfl
@[simp] theorem queueTransaction_library (x : Transaction) : (queueTransaction x s).library = s.library := rfl
@[simp] theorem queueTransaction_power (x : Transaction) : (queueTransaction x s).power = s.power := rfl
@[simp] theorem queueTransaction_maps (x : Transaction) : (queueTransaction x s).maps = s.maps := rfl
@[simp] theorem queueTransaction_cycle (x : Transaction) : (queueTransaction x s).cycle = s.cycle := rfl
@[simp] theorem queueTransaction_pending (x : Transaction) : (queueTransaction x s).pending = s.pending := rfl
@[simp] theorem queueTransaction_mgmt (x : Transaction) : (queueTransaction x s).mgmt = s.mgmt := rfl

@[simp] theorem createDownload_slots (k : Slot) : (createDownload k s).slots = s.slots := rfl
@[simp] theorem createDownload_presence (k : Slot) : (createDownload k s).presence = s.presence := rfl
@[simp] theorem createDownload_matcher (k : Slot) : (createDownload k s).matcher = s.matcher := rfl
@[simp] theorem createDownload_library (k : Slot) : (createDownload k s).library = s.library := rfl
@[simp] theorem createDownload_power (k : Slot) : (createDownload k s).power = s.power := rfl
@[simp] theorem createDownload_maps (k : Slot) : (createDownload k s).maps = s.maps := rfl
@[simp] theorem createDownload_cycle (k : Slot) : (createDownload k s).cycle = s.cycle := rfl
@[simp] theorem createDownload_pending (k : Slot) : (createDownload k s).pending = s.pending := rfl
@[simp] theorem createDownload_mgmt (k : Slot) : (createDownload k s).mgmt = s.mgmt := rfl

@[simp] theorem grantClaim_presence (k : Slot) : (grantClaim k s).presence = s.presence := rfl
@[simp] theorem grantClaim_matcher (k : Slot) : (grantClaim k s).matcher = s.matcher := rfl
@[simp] theorem grantClaim_library (k : Slot) : (grantClaim k s).library = s.library := rfl
@[simp] theorem grantClaim_service (k : Slot) : (grantClaim k s).service = s.service := rfl
@[simp] theorem grantClaim_maps (k : Slot) : (grantClaim k s).maps = s.maps := rfl
@[simp] theorem grantClaim_cycle (k : Slot) : (grantClaim k s).cycle = s.cycle := rfl
@[simp] theorem grantClaim_pending (k : Slot) : (grantClaim k s).pending = s.pending := rfl
@[simp] theorem parkClaim_presence (k : Slot) : (parkClaim k s).presence = s.presence := rfl
@[simp] theorem parkClaim_matcher (k : Slot) : (parkClaim k s).matcher = s.matcher := rfl
@[simp] theorem parkClaim_library (k : Slot) : (parkClaim k s).library = s.library := rfl
@[simp] theorem parkClaim_service (k : Slot) : (parkClaim k s).service = s.service := rfl
@[simp] theorem parkClaim_maps (k : Slot) : (parkClaim k s).maps = s.maps := rfl
@[simp] theorem parkClaim_cycle (k : Slot) : (parkClaim k s).cycle = s.cycle := rfl
@[simp] theorem parkClaim_pending (k : Slot) : (parkClaim k s).pending = s.pending := rfl

/-- The arbiter starts the oldest slot of the Ramp Queue when it is free, and otherwise does nothing (R80). -/
theorem startRamp_cases :
    (∃ k rest, s.power.arbiter = none ∧ s.power.rampQueue = k :: rest
        ∧ startRamp s = enterState k .ramping
            ((s.modPower fun p => { p with rampQueue := rest, arbiter := some k }).modPow k fun r =>
              { r with mainSupply := true, rampTimer := some (s.profileOf k).rampTime }))
      ∨ ((s.power.arbiter.isSome = true ∨ s.power.rampQueue = []) ∧ startRamp s = s) := by
  unfold startRamp
  split
  · rename_i k rest h1 h2; exact .inl ⟨k, rest, h1, h2, rfl⟩
  · rename_i h
    refine .inr ⟨?_, rfl⟩
    cases ha : s.power.arbiter with
    | some j => exact .inl rfl
    | none =>
      cases hq : s.power.rampQueue with
      | nil => exact .inr rfl
      | cons k rest => exact absurd hq (h k rest ha)

@[simp] theorem startRamp_presence  : (startRamp s).presence = s.presence := by
  rcases startRamp_cases s with ⟨k, rest, -, -, e⟩ | ⟨-, e⟩
  · rw [e]; rfl
  · rw [e]
@[simp] theorem startRamp_matcher  : (startRamp s).matcher = s.matcher := by
  rcases startRamp_cases s with ⟨k, rest, -, -, e⟩ | ⟨-, e⟩
  · rw [e]; rfl
  · rw [e]
@[simp] theorem startRamp_library  : (startRamp s).library = s.library := by
  rcases startRamp_cases s with ⟨k, rest, -, -, e⟩ | ⟨-, e⟩
  · rw [e]; rfl
  · rw [e]
@[simp] theorem startRamp_service  : (startRamp s).service = s.service := by
  rcases startRamp_cases s with ⟨k, rest, -, -, e⟩ | ⟨-, e⟩
  · rw [e]; rfl
  · rw [e]
@[simp] theorem startRamp_maps  : (startRamp s).maps = s.maps := by
  rcases startRamp_cases s with ⟨k, rest, -, -, e⟩ | ⟨-, e⟩
  · rw [e]; rfl
  · rw [e]
@[simp] theorem startRamp_cycle  : (startRamp s).cycle = s.cycle := by
  rcases startRamp_cases s with ⟨k, rest, -, -, e⟩ | ⟨-, e⟩
  · rw [e]; rfl
  · rw [e]
@[simp] theorem startRamp_pending  : (startRamp s).pending = s.pending := by
  rcases startRamp_cases s with ⟨k, rest, -, -, e⟩ | ⟨-, e⟩
  · rw [e]; rfl
  · rw [e]
@[simp] theorem retryClaim_presence (k : Slot) : (retryClaim k s).presence = s.presence := by
  unfold retryClaim; split <;> rfl
@[simp] theorem retryClaim_matcher (k : Slot) : (retryClaim k s).matcher = s.matcher := by
  unfold retryClaim; split <;> rfl
@[simp] theorem retryClaim_library (k : Slot) : (retryClaim k s).library = s.library := by
  unfold retryClaim; split <;> rfl
@[simp] theorem retryClaim_service (k : Slot) : (retryClaim k s).service = s.service := by
  unfold retryClaim; split <;> rfl
@[simp] theorem retryClaim_maps (k : Slot) : (retryClaim k s).maps = s.maps := by
  unfold retryClaim; split <;> rfl
@[simp] theorem retryClaim_cycle (k : Slot) : (retryClaim k s).cycle = s.cycle := by
  unfold retryClaim; split <;> rfl
@[simp] theorem retryClaim_pending (k : Slot) : (retryClaim k s).pending = s.pending := by
  unfold retryClaim; split <;> rfl

@[simp] theorem requestClaim_presence (k : Slot) : (requestClaim k s).presence = s.presence := by
  unfold requestClaim; split
  · rw [startRamp_presence, grantClaim_presence]
  · rfl
@[simp] theorem requestClaim_matcher (k : Slot) : (requestClaim k s).matcher = s.matcher := by
  unfold requestClaim; split
  · rw [startRamp_matcher, grantClaim_matcher]
  · rfl
@[simp] theorem requestClaim_library (k : Slot) : (requestClaim k s).library = s.library := by
  unfold requestClaim; split
  · rw [startRamp_library, grantClaim_library]
  · rfl
@[simp] theorem requestClaim_service (k : Slot) : (requestClaim k s).service = s.service := by
  unfold requestClaim; split
  · rw [startRamp_service, grantClaim_service]
  · rfl
@[simp] theorem requestClaim_maps (k : Slot) : (requestClaim k s).maps = s.maps := by
  unfold requestClaim; split
  · rw [startRamp_maps, grantClaim_maps]
  · rfl
@[simp] theorem requestClaim_cycle (k : Slot) : (requestClaim k s).cycle = s.cycle := by
  unfold requestClaim; split
  · rw [startRamp_cycle, grantClaim_cycle]
  · rfl
@[simp] theorem requestClaim_pending (k : Slot) : (requestClaim k s).pending = s.pending := by
  unfold requestClaim; split
  · rw [startRamp_pending, grantClaim_pending]
  · rfl

@[simp] theorem reevaluateClaims_presence  : (reevaluateClaims s).presence = s.presence := by
  rw [reevaluateClaims, startRamp_presence]
  exact eachSlot_same (·.presence) _ (fun k u => retryClaim_presence u k) s
@[simp] theorem reevaluateClaims_matcher  : (reevaluateClaims s).matcher = s.matcher := by
  rw [reevaluateClaims, startRamp_matcher]
  exact eachSlot_same (·.matcher) _ (fun k u => retryClaim_matcher u k) s
@[simp] theorem reevaluateClaims_library  : (reevaluateClaims s).library = s.library := by
  rw [reevaluateClaims, startRamp_library]
  exact eachSlot_same (·.library) _ (fun k u => retryClaim_library u k) s
@[simp] theorem reevaluateClaims_service  : (reevaluateClaims s).service = s.service := by
  rw [reevaluateClaims, startRamp_service]
  exact eachSlot_same (·.service) _ (fun k u => retryClaim_service u k) s
@[simp] theorem reevaluateClaims_maps  : (reevaluateClaims s).maps = s.maps := by
  rw [reevaluateClaims, startRamp_maps]
  exact eachSlot_same (·.maps) _ (fun k u => retryClaim_maps u k) s
@[simp] theorem reevaluateClaims_cycle  : (reevaluateClaims s).cycle = s.cycle := by
  rw [reevaluateClaims, startRamp_cycle]
  exact eachSlot_same (·.cycle) _ (fun k u => retryClaim_cycle u k) s
@[simp] theorem reevaluateClaims_pending  : (reevaluateClaims s).pending = s.pending := by
  rw [reevaluateClaims, startRamp_pending]
  exact eachSlot_same (·.pending) _ (fun k u => retryClaim_pending u k) s

/-- What a withdrawal does in the Power Controller: all is given up, and a claim released re-evaluates the Power Wait List
(R77, R85). -/
theorem withdrawPower_eq (k : Slot) : withdrawPower k s =
    if (s.pow k).claim.isSome then reevaluateClaims (powerGivenUp k s) else powerGivenUp k s := rfl

@[simp] theorem withdrawPower_presence (k : Slot) : (withdrawPower k s).presence = s.presence := by
  unfold withdrawPower; dsimp only; split
  · rw [reevaluateClaims_presence]; rfl
  · rfl
@[simp] theorem withdrawPower_matcher (k : Slot) : (withdrawPower k s).matcher = s.matcher := by
  unfold withdrawPower; dsimp only; split
  · rw [reevaluateClaims_matcher]; rfl
  · rfl
@[simp] theorem withdrawPower_library (k : Slot) : (withdrawPower k s).library = s.library := by
  unfold withdrawPower; dsimp only; split
  · rw [reevaluateClaims_library]; rfl
  · rfl
@[simp] theorem withdrawPower_service (k : Slot) : (withdrawPower k s).service = s.service := by
  unfold withdrawPower; dsimp only; split
  · rw [reevaluateClaims_service]; rfl
  · rfl
@[simp] theorem withdrawPower_maps (k : Slot) : (withdrawPower k s).maps = s.maps := by
  unfold withdrawPower; dsimp only; split
  · rw [reevaluateClaims_maps]; rfl
  · rfl
@[simp] theorem withdrawPower_cycle (k : Slot) : (withdrawPower k s).cycle = s.cycle := by
  unfold withdrawPower; dsimp only; split
  · rw [reevaluateClaims_cycle]; rfl
  · rfl
@[simp] theorem withdrawPower_pending (k : Slot) : (withdrawPower k s).pending = s.pending := by
  unfold withdrawPower; dsimp only; split
  · rw [reevaluateClaims_pending]; rfl
  · rfl

@[simp] theorem settlePassThrough_slots (p : PassThrough) (a : Answer) : (settlePassThrough p a s).slots = s.slots := rfl
@[simp] theorem settlePassThrough_presence (p : PassThrough) (a : Answer) : (settlePassThrough p a s).presence = s.presence := rfl
@[simp] theorem settlePassThrough_matcher (p : PassThrough) (a : Answer) : (settlePassThrough p a s).matcher = s.matcher := rfl
@[simp] theorem settlePassThrough_library (p : PassThrough) (a : Answer) : (settlePassThrough p a s).library = s.library := rfl
@[simp] theorem settlePassThrough_power (p : PassThrough) (a : Answer) : (settlePassThrough p a s).power = s.power := rfl
@[simp] theorem settlePassThrough_service (p : PassThrough) (a : Answer) : (settlePassThrough p a s).service = s.service := rfl
@[simp] theorem settlePassThrough_maps (p : PassThrough) (a : Answer) : (settlePassThrough p a s).maps = s.maps := rfl
@[simp] theorem settlePassThrough_cycle (p : PassThrough) (a : Answer) : (settlePassThrough p a s).cycle = s.cycle := rfl
@[simp] theorem settlePassThrough_pending (p : PassThrough) (a : Answer) : (settlePassThrough p a s).pending = s.pending := rfl

theorem foldl_same {α β : Type} (view : State → β) (act : State → α → State) (same : ∀ u a, view (act u a) = view u)
    (l : List α) : view (l.foldl act s) = view s := by
  induction l generalizing s with
  | nil => rfl
  | cons a rest ih => rw [List.foldl_cons, ih, same]

@[simp] theorem dropPassThroughs_slots (k : Slot) : (dropPassThroughs k s).slots = s.slots := by
  unfold dropPassThroughs; exact foldl_same s (·.slots) (fun u p => settlePassThrough p ⟨.slotLeft, [slotByte k]⟩ u) (fun _ _ => rfl) _
@[simp] theorem dropPassThroughs_presence (k : Slot) : (dropPassThroughs k s).presence = s.presence := by
  unfold dropPassThroughs; exact foldl_same s (·.presence) (fun u p => settlePassThrough p ⟨.slotLeft, [slotByte k]⟩ u) (fun _ _ => rfl) _
@[simp] theorem dropPassThroughs_matcher (k : Slot) : (dropPassThroughs k s).matcher = s.matcher := by
  unfold dropPassThroughs; exact foldl_same s (·.matcher) (fun u p => settlePassThrough p ⟨.slotLeft, [slotByte k]⟩ u) (fun _ _ => rfl) _
@[simp] theorem dropPassThroughs_library (k : Slot) : (dropPassThroughs k s).library = s.library := by
  unfold dropPassThroughs; exact foldl_same s (·.library) (fun u p => settlePassThrough p ⟨.slotLeft, [slotByte k]⟩ u) (fun _ _ => rfl) _
@[simp] theorem dropPassThroughs_power (k : Slot) : (dropPassThroughs k s).power = s.power := by
  unfold dropPassThroughs; exact foldl_same s (·.power) (fun u p => settlePassThrough p ⟨.slotLeft, [slotByte k]⟩ u) (fun _ _ => rfl) _
@[simp] theorem dropPassThroughs_service (k : Slot) : (dropPassThroughs k s).service = s.service := by
  unfold dropPassThroughs; exact foldl_same s (·.service) (fun u p => settlePassThrough p ⟨.slotLeft, [slotByte k]⟩ u) (fun _ _ => rfl) _
@[simp] theorem dropPassThroughs_maps (k : Slot) : (dropPassThroughs k s).maps = s.maps := by
  unfold dropPassThroughs; exact foldl_same s (·.maps) (fun u p => settlePassThrough p ⟨.slotLeft, [slotByte k]⟩ u) (fun _ _ => rfl) _
@[simp] theorem dropPassThroughs_cycle (k : Slot) : (dropPassThroughs k s).cycle = s.cycle := by
  unfold dropPassThroughs; exact foldl_same s (·.cycle) (fun u p => settlePassThrough p ⟨.slotLeft, [slotByte k]⟩ u) (fun _ _ => rfl) _
@[simp] theorem dropPassThroughs_pending (k : Slot) : (dropPassThroughs k s).pending = s.pending := by
  unfold dropPassThroughs; exact foldl_same s (·.pending) (fun u p => settlePassThrough p ⟨.slotLeft, [slotByte k]⟩ u) (fun _ _ => rfl) _

@[simp] theorem withdrawService_slots (k : Slot) : (withdrawService k s).slots = s.slots := by
  rw [withdrawService]; exact dropPassThroughs_slots _ k
@[simp] theorem withdrawService_presence (k : Slot) : (withdrawService k s).presence = s.presence := by
  rw [withdrawService]; exact dropPassThroughs_presence _ k
@[simp] theorem withdrawService_matcher (k : Slot) : (withdrawService k s).matcher = s.matcher := by
  rw [withdrawService]; exact dropPassThroughs_matcher _ k
@[simp] theorem withdrawService_library (k : Slot) : (withdrawService k s).library = s.library := by
  rw [withdrawService]; exact dropPassThroughs_library _ k
@[simp] theorem withdrawService_power (k : Slot) : (withdrawService k s).power = s.power := by
  rw [withdrawService]; exact dropPassThroughs_power _ k
@[simp] theorem withdrawService_maps (k : Slot) : (withdrawService k s).maps = s.maps := by
  rw [withdrawService]; exact dropPassThroughs_maps _ k
@[simp] theorem withdrawService_cycle (k : Slot) : (withdrawService k s).cycle = s.cycle := by
  rw [withdrawService]; exact dropPassThroughs_cycle _ k
@[simp] theorem withdrawService_pending (k : Slot) : (withdrawService k s).pending = s.pending := by
  rw [withdrawService]; exact dropPassThroughs_pending _ k

@[simp] theorem withdrawService_service (k : Slot) : (withdrawService k s).service =
    { s.service with
      queue := s.service.queue.filter (·.slot != k)
      inFlight := if s.service.inFlight.any (·.slot == k) then none else s.service.inFlight
      segment := if s.service.inFlight.any (·.slot == k) then s.service.segment.map (fun g => { g with live := false })
        else s.service.segment
      downloads := amend s.service.downloads k fun _ => none } := by
  rw [withdrawService]; exact dropPassThroughs_service _ k

@[simp] theorem withdrawMaps_slots (k : Slot) : (withdrawMaps k s).slots = s.slots := rfl
@[simp] theorem withdrawMaps_presence (k : Slot) : (withdrawMaps k s).presence = s.presence := rfl
@[simp] theorem withdrawMaps_matcher (k : Slot) : (withdrawMaps k s).matcher = s.matcher := rfl
@[simp] theorem withdrawMaps_library (k : Slot) : (withdrawMaps k s).library = s.library := rfl
@[simp] theorem withdrawMaps_power (k : Slot) : (withdrawMaps k s).power = s.power := rfl
@[simp] theorem withdrawMaps_service (k : Slot) : (withdrawMaps k s).service = s.service := rfl
@[simp] theorem withdrawMaps_cycle (k : Slot) : (withdrawMaps k s).cycle = s.cycle := rfl
@[simp] theorem withdrawMaps_pending (k : Slot) : (withdrawMaps k s).pending = s.pending := rfl

@[simp] theorem withdraw_presence (k : Slot) : (withdraw k s).presence = s.presence := by
  rw [withdraw, withdrawMaps_presence, withdrawService_presence]; exact withdrawPower_presence _ k
@[simp] theorem withdraw_library (k : Slot) : (withdraw k s).library = s.library := by
  rw [withdraw, withdrawMaps_library, withdrawService_library]; exact withdrawPower_library _ k
@[simp] theorem withdraw_cycle (k : Slot) : (withdraw k s).cycle = s.cycle := by
  rw [withdraw, withdrawMaps_cycle, withdrawService_cycle]; exact withdrawPower_cycle _ k
@[simp] theorem withdraw_pending (k : Slot) : (withdraw k s).pending = s.pending := by
  rw [withdraw, withdrawMaps_pending, withdrawService_pending]; exact withdrawPower_pending _ k

/-- A withdrawal keeps the rules and the default action. -/
theorem withdraw_matcher (k : Slot) : (withdraw k s).matcher = (s.setAttempt k none).matcher := by
  rw [withdraw, withdrawMaps_matcher, withdrawService_matcher]; exact withdrawPower_matcher _ k

/-- Neither map changes at a withdrawal, nor does the recheck mark (R130). -/
theorem withdraw_maps (k : Slot) : (withdraw k s).maps =
    { s.maps with
      waitList := s.maps.waitList.filter (· != k)
      changes := s.maps.changes.filter (· != .add k) ++ (if wantsDrop s.maps k then [.drop k] else []) } := by
  have h : (withdrawService k ((withdrawPower k (s.setAttempt k none)).modSlot k fun r =>
      { r with parkReason := none })).maps = s.maps := by
    rw [withdrawService_maps]; exact withdrawPower_maps _ k
  rw [withdraw, withdrawMaps]
  simp only [State.modMaps_maps, h]

/-- What the Service Channel Controller holds after a withdrawal (R97). -/
theorem withdraw_service (k : Slot) : (withdraw k s).service = (withdrawService k s).service := by
  have h : ((withdrawPower k (s.setAttempt k none)).modSlot k fun r => { r with parkReason := none }).service
      = s.service := withdrawPower_service _ k
  rw [withdraw, withdrawMaps_service, withdrawService_service, withdrawService_service, h]

@[simp] theorem faultEntry_presence (k : Slot) (reason : FaultReason) (code : Option Byte) : (faultEntry k reason code s).presence = s.presence := by
  rw [faultEntry, postSlotNotice_presence]; exact withdraw_presence s k
@[simp] theorem faultEntry_library (k : Slot) (reason : FaultReason) (code : Option Byte) : (faultEntry k reason code s).library = s.library := by
  rw [faultEntry, postSlotNotice_library]; exact withdraw_library s k
@[simp] theorem faultEntry_cycle (k : Slot) (reason : FaultReason) (code : Option Byte) : (faultEntry k reason code s).cycle = s.cycle := by
  rw [faultEntry, postSlotNotice_cycle]; exact withdraw_cycle s k
@[simp] theorem faultEntry_pending (k : Slot) (reason : FaultReason) (code : Option Byte) : (faultEntry k reason code s).pending = s.pending := by
  rw [faultEntry, postSlotNotice_pending]; exact withdraw_pending s k

/-- A fault report is taken as fault entry, or discarded whole (R5, R10). -/
theorem reportFault_cases (k : Slot) (e : Epoch) (reason : FaultReason) (code : Option Byte) :
    (reason.takenIn (s.slot k).state = true ∧ (s.slot k).epoch = e
        ∧ reportFault k e reason code s = faultEntry k reason code s)
      ∨ ((reason.takenIn (s.slot k).state = false ∨ (s.slot k).epoch ≠ e) ∧ reportFault k e reason code s = s) := by
  unfold reportFault current
  split
  · rename_i h
    simp only [Bool.and_eq_true, beq_iff_eq] at h
    exact .inl ⟨h.1, h.2, rfl⟩
  · rename_i h
    refine .inr ⟨?_, rfl⟩
    by_cases hs : reason.takenIn (s.slot k).state = true
    · right; intro he; exact h (by simp [hs, he])
    · left; simpa using hs

@[simp] theorem reportFault_presence (k : Slot) (e : Epoch) (reason : FaultReason) (code : Option Byte) : (reportFault k e reason code s).presence = s.presence := by
  rcases reportFault_cases s k e reason code with ⟨-, -, h⟩ | ⟨-, h⟩ <;> rw [h]
  exact faultEntry_presence s k reason code
@[simp] theorem reportFault_library (k : Slot) (e : Epoch) (reason : FaultReason) (code : Option Byte) : (reportFault k e reason code s).library = s.library := by
  rcases reportFault_cases s k e reason code with ⟨-, -, h⟩ | ⟨-, h⟩ <;> rw [h]
  exact faultEntry_library s k reason code
@[simp] theorem reportFault_cycle (k : Slot) (e : Epoch) (reason : FaultReason) (code : Option Byte) : (reportFault k e reason code s).cycle = s.cycle := by
  rcases reportFault_cases s k e reason code with ⟨-, -, h⟩ | ⟨-, h⟩ <;> rw [h]
  exact faultEntry_cycle s k reason code
@[simp] theorem reportFault_pending (k : Slot) (e : Epoch) (reason : FaultReason) (code : Option Byte) : (reportFault k e reason code s).pending = s.pending := by
  rcases reportFault_cases s k e reason code with ⟨-, -, h⟩ | ⟨-, h⟩ <;> rw [h]
  exact faultEntry_pending s k reason code

@[simp] theorem enterIdentifying_presence (k : Slot) : (enterIdentifying k s).presence = s.presence := rfl
@[simp] theorem enterIdentifying_library (k : Slot) : (enterIdentifying k s).library = s.library := rfl
@[simp] theorem enterIdentifying_power (k : Slot) : (enterIdentifying k s).power = s.power := rfl
@[simp] theorem enterIdentifying_maps (k : Slot) : (enterIdentifying k s).maps = s.maps := rfl
@[simp] theorem enterIdentifying_cycle (k : Slot) : (enterIdentifying k s).cycle = s.cycle := rfl
@[simp] theorem enterIdentifying_pending (k : Slot) : (enterIdentifying k s).pending = s.pending := rfl

/-- A ramp's end is good, bad or discarded, and without a running timer there is none (R5, R81). -/
theorem execRampEnd_cases (k : Slot) :
    ((s.pow k).rampTimer.isSome = false ∧ execRampEnd k s = .next s)
      ∨ ((s.pow k).rampTimer.isSome = true ∧ rampEndTaken k s = true ∧ (s.pow k).powerGood = true
          ∧ execRampEnd k s = .next (rampGood k s))
      ∨ ((s.pow k).rampTimer.isSome = true ∧ rampEndTaken k s = true ∧ (s.pow k).powerGood = false
          ∧ execRampEnd k s = .next (rampBad k s))
      ∨ ((s.pow k).rampTimer.isSome = true ∧ rampEndTaken k s = false
          ∧ execRampEnd k s = .next (rampDiscarded k s)) := by
  cases ht : (s.pow k).rampTimer.isSome <;> cases hr : rampEndTaken k s <;> cases hg : (s.pow k).powerGood <;>
    simp [execRampEnd, ht, hr, hg]

/-- The report of a ramp's end is taken exactly in RAMPING with a claim of the current epoch (R5, R73). -/
theorem rampEndTaken_iff (k : Slot) : rampEndTaken k s = true ↔
    (s.slot k).state = .ramping ∧ ∃ c, (s.pow k).claim = some c ∧ c.epoch = (s.slot k).epoch := by
  cases h : (s.pow k).claim with
  | none => simp [rampEndTaken, h]
  | some c => simpa [rampEndTaken, current, h] using fun _ => eq_comm

/-- In a sound state no ramp's end is discarded. -/
theorem rampEndTaken_of_sound (k : Slot) (h : PowerSound s) (ht : (s.pow k).rampTimer.isSome = true) :
    rampEndTaken k s = true := by
  obtain ⟨-, hclaim, -, htimer, -, hepoch, -⟩ := h.1 k
  have hs : (s.slot k).state = .ramping := by simpa [ht] using htimer.symm
  rw [hs] at hclaim
  obtain ⟨c, hc⟩ := Option.isSome_iff_exists.mp (hclaim.trans rfl)
  exact (rampEndTaken_iff s k).mpr ⟨hs, c, hc, hepoch c hc⟩

/-- The admission gate takes a slot from PRESENT to IDENTIFYING, or does nothing (R15). -/
theorem admissionGate_cases (k : Slot) :
    ((s.slot k).state = .present ∧ (s.slot k).mode = .auto ∧ s.settings.admission = .opened
        ∧ admissionGate k s = enterIdentifying k s)
      ∨ (¬ ((s.slot k).state = .present ∧ (s.slot k).mode = .auto ∧ s.settings.admission = .opened)
        ∧ admissionGate k s = s) := by
  unfold admissionGate
  split
  · rename_i h; exact .inl ⟨h.1, h.2.1, h.2.2, rfl⟩
  · rename_i h; exact .inr ⟨h, rfl⟩

@[simp] theorem admissionGate_presence (k : Slot) : (admissionGate k s).presence = s.presence := by
  unfold admissionGate; split <;> rfl
@[simp] theorem admissionGate_library (k : Slot) : (admissionGate k s).library = s.library := by
  unfold admissionGate; split <;> rfl
@[simp] theorem admissionGate_power (k : Slot) : (admissionGate k s).power = s.power := by
  unfold admissionGate; split <;> rfl
@[simp] theorem admissionGate_maps (k : Slot) : (admissionGate k s).maps = s.maps := by
  unfold admissionGate; split <;> rfl
@[simp] theorem admissionGate_cycle (k : Slot) : (admissionGate k s).cycle = s.cycle := by
  unfold admissionGate; split <;> rfl
@[simp] theorem admissionGate_pending (k : Slot) : (admissionGate k s).pending = s.pending := by
  unfold admissionGate; split <;> rfl

end Sys2Proof.Machine
end

