-- ==== Sys2Proof/Laws/PerInstr.lean ====
section
/-!
SUPPORT. The family Framing: what a head-link command's frame holds before its CRC-32 spells that command, one lemma for
each constructor of Instr.
-/
namespace Sys2Proof.Laws

open Sys2Proof

/-- The payload of a well-formed command's frame spells the command; a command of no frame has no payload. -/
def Framing.Statement (i : Instr) : Prop :=
  i.wellFormed = true → ∀ p, commandPayload i = some p → payloadCommand p = i

theorem Framing.coldReset : Framing.Statement .coldReset := by intro _ p hp; cases hp
theorem Framing.presenceLineAsserted (slot : Slot) : Framing.Statement (.presenceLineAsserted slot) := by intro _ p hp; cases hp
theorem Framing.presenceLineDeasserted (slot : Slot) : Framing.Statement (.presenceLineDeasserted slot) := by intro _ p hp; cases hp
theorem Framing.insertionDebounceExpiry (slot : Slot) : Framing.Statement (.insertionDebounceExpiry slot) := by intro _ p hp; cases hp
theorem Framing.removalDebounceExpiry (slot : Slot) : Framing.Statement (.removalDebounceExpiry slot) := by intro _ p hp; cases hp
theorem Framing.segmentStart : Framing.Statement .segmentStart := by intro _ p hp; cases hp
theorem Framing.segmentResponseTimeout : Framing.Statement .segmentResponseTimeout := by intro _ p hp; cases hp
theorem Framing.segmentEnd (answer : List Byte) : Framing.Statement (.segmentEnd answer) := by intro _ p hp; cases hp
theorem Framing.rampEnd (slot : Slot) : Framing.Statement (.rampEnd slot) := by intro _ p hp; cases hp
theorem Framing.powerGoodDeasserted (slot : Slot) : Framing.Statement (.powerGoodDeasserted slot) := by intro _ p hp; cases hp
theorem Framing.powerGoodAsserted (slot : Slot) : Framing.Statement (.powerGoodAsserted slot) := by intro _ p hp; cases hp
theorem Framing.powerGoodFilterExpiry (slot : Slot) : Framing.Statement (.powerGoodFilterExpiry slot) := by intro _ p hp; cases hp
theorem Framing.configurationTimeout (slot : Slot) : Framing.Statement (.configurationTimeout slot) := by intro _ p hp; cases hp
theorem Framing.build : Framing.Statement .build := by intro _ p hp; cases hp
theorem Framing.cycleFrame (body : List Byte) : Framing.Statement (.cycleFrame body) := by intro _ p hp; cases hp; rfl
theorem Framing.frameServiceStart : Framing.Statement .frameServiceStart := by intro _ p hp; cases hp
theorem Framing.responseWindowClose (inWindow : Bool) (response : List Byte) : Framing.Statement (.responseWindowClose inWindow response) := by intro _ p hp; cases hp
theorem Framing.exchangeEnd : Framing.Statement .exchangeEnd := by intro _ p hp; cases hp
theorem Framing.cycleWatchdogExpiry : Framing.Statement .cycleWatchdogExpiry := by intro _ p hp; cases hp
theorem Framing.safeExchangeTimerExpiry : Framing.Statement .safeExchangeTimerExpiry := by intro _ p hp; cases hp
theorem Framing.safeExchangeStart : Framing.Statement .safeExchangeStart := by intro _ p hp; cases hp
theorem Framing.badCrcFrame : Framing.Statement .badCrcFrame := by intro _ p hp; cases hp
theorem Framing.upstreamFrameEnd : Framing.Statement .upstreamFrameEnd := by intro _ p hp; cases hp

theorem Framing.unknownRequest (tag code : Byte) (args : List Byte) : Framing.Statement (.unknownRequest tag code args) := by
  intro hw p hp
  cases hp
  simp only [Instr.wellFormed, Bool.and_eq_true, Bool.not_eq_true', List.contains_eq_mem, decide_eq_false_iff_not] at hw
  have hc : ∀ n ∈ requestCodes.map BitVec.toNat, code.toNat ≠ n := by
    intro n hn e
    obtain ⟨c, hm, rfl⟩ := List.mem_map.mp hn
    exact hw.1 (BitVec.eq_of_toNat_eq e ▸ hm)
  show requestCommand tag code args = _
  unfold requestCommand
  split <;> first
    | rfl
    | (rename_i e; exact absurd e (hc _ (by decide)))

theorem Framing.noticeFetch (tag : Byte) (args : List Byte) : Framing.Statement (.noticeFetch tag args) := by intro _ p hp; cases hp; rfl
theorem Framing.slotMode (tag : Byte) (args : List Byte) : Framing.Statement (.slotMode tag args) := by intro _ p hp; cases hp; rfl
theorem Framing.slotStart (tag : Byte) (args : List Byte) : Framing.Statement (.slotStart tag args) := by intro _ p hp; cases hp; rfl
theorem Framing.slotStop (tag : Byte) (args : List Byte) : Framing.Statement (.slotStop tag args) := by intro _ p hp; cases hp; rfl
theorem Framing.slotClear (tag : Byte) (args : List Byte) : Framing.Statement (.slotClear tag args) := by intro _ p hp; cases hp; rfl
theorem Framing.slotRead (tag : Byte) (args : List Byte) : Framing.Statement (.slotRead tag args) := by intro _ p hp; cases hp; rfl
theorem Framing.profileLoad (tag : Byte) (args : List Byte) : Framing.Statement (.profileLoad tag args) := by intro _ p hp; cases hp; rfl
theorem Framing.profileDrop (tag : Byte) (args : List Byte) : Framing.Statement (.profileDrop tag args) := by intro _ p hp; cases hp; rfl
theorem Framing.profilePurge (tag : Byte) (args : List Byte) : Framing.Statement (.profilePurge tag args) := by intro _ p hp; cases hp; rfl
theorem Framing.profileRead (tag : Byte) (args : List Byte) : Framing.Statement (.profileRead tag args) := by intro _ p hp; cases hp; rfl
theorem Framing.ruleWrite (tag : Byte) (args : List Byte) : Framing.Statement (.ruleWrite tag args) := by intro _ p hp; cases hp; rfl
theorem Framing.ruleRead (tag : Byte) (args : List Byte) : Framing.Statement (.ruleRead tag args) := by intro _ p hp; cases hp; rfl
theorem Framing.ruleDefault (tag : Byte) (args : List Byte) : Framing.Statement (.ruleDefault tag args) := by intro _ p hp; cases hp; rfl
theorem Framing.storeWrite (tag : Byte) (args : List Byte) : Framing.Statement (.storeWrite tag args) := by intro _ p hp; cases hp; rfl
theorem Framing.storeRead (tag : Byte) (args : List Byte) : Framing.Statement (.storeRead tag args) := by intro _ p hp; cases hp; rfl
theorem Framing.rackSet (tag : Byte) (args : List Byte) : Framing.Statement (.rackSet tag args) := by intro _ p hp; cases hp; rfl
theorem Framing.rackRead (tag : Byte) (args : List Byte) : Framing.Statement (.rackRead tag args) := by intro _ p hp; cases hp; rfl
theorem Framing.mapRead (tag : Byte) (args : List Byte) : Framing.Statement (.mapRead tag args) := by intro _ p hp; cases hp; rfl
theorem Framing.cardRead (tag : Byte) (args : List Byte) : Framing.Statement (.cardRead tag args) := by intro _ p hp; cases hp; rfl
theorem Framing.cardWrite (tag : Byte) (args : List Byte) : Framing.Statement (.cardWrite tag args) := by intro _ p hp; cases hp; rfl
theorem Framing.restart (tag : Byte) (args : List Byte) : Framing.Statement (.restart tag args) := by intro _ p hp; cases hp; rfl

end Sys2Proof.Laws
end

