-- ==== Sys2Proof/Laws/Receiver.lean ====
section
/-!
SUPPORT. What hearing a symbol can do, and that the shared operations leave the receiver alone.
-/
namespace Sys2Proof.Machine

variable (s : State)

/-! ## Fields under the two updates -/

@[simp] theorem State.setReceiver_receiver (g : Option (List Byte)) : (s.setReceiver g).mgmt.receiver = g := rfl
@[simp] theorem State.setReceiver_slots (g : Option (List Byte)) : (s.setReceiver g).slots = s.slots := rfl
@[simp] theorem State.setReceiver_presence (g : Option (List Byte)) : (s.setReceiver g).presence = s.presence := rfl
@[simp] theorem State.setReceiver_matcher (g : Option (List Byte)) : (s.setReceiver g).matcher = s.matcher := rfl
@[simp] theorem State.setReceiver_library (g : Option (List Byte)) : (s.setReceiver g).library = s.library := rfl
@[simp] theorem State.setReceiver_power (g : Option (List Byte)) : (s.setReceiver g).power = s.power := rfl
@[simp] theorem State.setReceiver_service (g : Option (List Byte)) : (s.setReceiver g).service = s.service := rfl
@[simp] theorem State.setReceiver_maps (g : Option (List Byte)) : (s.setReceiver g).maps = s.maps := rfl
@[simp] theorem State.setReceiver_cycle (g : Option (List Byte)) : (s.setReceiver g).cycle = s.cycle := rfl
@[simp] theorem State.setReceiver_pending (g : Option (List Byte)) : (s.setReceiver g).pending = s.pending := rfl

@[simp] theorem State.handOn_slots (c : Instr) : (s.handOn c).slots = s.slots := rfl
@[simp] theorem State.handOn_presence (c : Instr) : (s.handOn c).presence = s.presence := rfl
@[simp] theorem State.handOn_matcher (c : Instr) : (s.handOn c).matcher = s.matcher := rfl
@[simp] theorem State.handOn_library (c : Instr) : (s.handOn c).library = s.library := rfl
@[simp] theorem State.handOn_power (c : Instr) : (s.handOn c).power = s.power := rfl
@[simp] theorem State.handOn_service (c : Instr) : (s.handOn c).service = s.service := rfl
@[simp] theorem State.handOn_maps (c : Instr) : (s.handOn c).maps = s.maps := rfl
@[simp] theorem State.handOn_cycle (c : Instr) : (s.handOn c).cycle = s.cycle := rfl
@[simp] theorem State.handOn_mgmt (c : Instr) : (s.handOn c).mgmt = s.mgmt := rfl
@[simp] theorem State.handOn_pending (c : Instr) : (s.handOn c).pending = s.pending ++ [c] := rfl

/-! ## Hearing -/

/-- What one symbol can do: pass over, begin a frame (breaking one off), go on with it, or end it (R169). -/
theorem State.hear_cases (x : LinkSymbol) :
    (s.mgmt.receiver = none ∧ x ≠ .startDelimiter ∧ s.hear x = s)
      ∨ (s.mgmt.receiver = none ∧ x = .startDelimiter ∧ s.hear x = s.setReceiver (some []))
      ∨ (∃ g, s.mgmt.receiver = some g ∧ x = .startDelimiter
          ∧ s.hear x = (s.handOn (receiveFrame true g)).setReceiver (some []))
      ∨ (∃ g b, s.mgmt.receiver = some g ∧ x = .byte b ∧ s.hear x = s.setReceiver (some (g ++ [b])))
      ∨ (∃ g, s.mgmt.receiver = some g ∧ x = .endDelimiter
          ∧ s.hear x = (s.handOn (receiveFrame false g)).setReceiver none) := by
  cases h : s.mgmt.receiver <;> cases x <;> simp [State.hear, h]

/-- The bytes of a frame gather in their order. -/
theorem State.hear_bytes (f g : List Byte) (h : s.mgmt.receiver = some g) :
    (f.map LinkSymbol.byte).foldl State.hear s = s.setReceiver (some (g ++ f)) := by
  induction f generalizing s g with
  | nil =>
    have : { s.mgmt with receiver := some g } = s.mgmt := by rw [← h]
    simp only [List.map_nil, List.foldl_nil, List.append_nil, State.setReceiver, State.modMgmt, this]
  | cons b f ih =>
    have : s.hear (.byte b) = s.setReceiver (some (g ++ [b])) := by simp [State.hear, h]
    rw [List.map_cons, List.foldl_cons, this, ih _ (g ++ [b]) rfl, List.append_assoc]
    rfl

/-! ## The receiver under the shared operations -/

@[simp] theorem startUpstream_receiver (m : Management) : (startUpstream m).receiver = m.receiver := by
  unfold startUpstream; split <;> rfl
@[simp] theorem kickUpstream_receiver (m : Management) : (kickUpstream m).receiver = m.receiver := by
  unfold kickUpstream; split <;> simp
@[simp] theorem postNotice_receiver (b : NoticeBody) : (postNotice b s).mgmt.receiver = s.mgmt.receiver := rfl
@[simp] theorem enterState_receiver (k : Slot) (x : SlotState) : (enterState k x s).mgmt.receiver = s.mgmt.receiver := rfl
@[simp] theorem modCounters_receiver (f : LinkCounters → LinkCounters) :
    (modCounters f s).mgmt.receiver = s.mgmt.receiver := rfl
@[simp] theorem postReply_receiver (r : ReplyFrame) : (postReply r s).mgmt.receiver = s.mgmt.receiver :=
  kickUpstream_receiver _
@[simp] theorem postReturn_receiver (r : ReturnFrame) : (postReturn r s).mgmt.receiver = s.mgmt.receiver :=
  kickUpstream_receiver _
@[simp] theorem grantClaim_receiver (k : Slot) : (grantClaim k s).mgmt.receiver = s.mgmt.receiver := rfl
@[simp] theorem parkClaim_receiver (k : Slot) : (parkClaim k s).mgmt.receiver = s.mgmt.receiver := rfl
@[simp] theorem startRamp_receiver : (startRamp s).mgmt.receiver = s.mgmt.receiver := by
  unfold startRamp; split <;> rfl
@[simp] theorem retryClaim_receiver (k : Slot) : (retryClaim k s).mgmt.receiver = s.mgmt.receiver := by
  unfold retryClaim; split <;> rfl
@[simp] theorem requestClaim_receiver (k : Slot) : (requestClaim k s).mgmt.receiver = s.mgmt.receiver := by
  unfold requestClaim; split
  · simp
  · rfl
@[simp] theorem reevaluateClaims_receiver : (reevaluateClaims s).mgmt.receiver = s.mgmt.receiver := by
  unfold reevaluateClaims
  rw [startRamp_receiver]
  exact eachSlot_same (·.mgmt.receiver) _ (fun k u => retryClaim_receiver u k) s
@[simp] theorem settlePassThrough_receiver (p : PassThrough) (a : Answer) :
    (settlePassThrough p a s).mgmt.receiver = s.mgmt.receiver := by
  unfold settlePassThrough; simp
@[simp] theorem dropPassThroughs_receiver (k : Slot) : (dropPassThroughs k s).mgmt.receiver = s.mgmt.receiver := by
  unfold dropPassThroughs
  exact foldl_same s (·.mgmt.receiver) (fun u p => settlePassThrough p ⟨.slotLeft, [slotByte k]⟩ u)
    (fun u p => settlePassThrough_receiver u p _) _
@[simp] theorem withdrawPower_receiver (k : Slot) : (withdrawPower k s).mgmt.receiver = s.mgmt.receiver := by
  unfold withdrawPower; dsimp only; split
  · rw [reevaluateClaims_receiver]; rfl
  · rfl
@[simp] theorem withdrawService_receiver (k : Slot) : (withdrawService k s).mgmt.receiver = s.mgmt.receiver := by
  rw [withdrawService]; exact dropPassThroughs_receiver _ k
@[simp] theorem withdrawMaps_receiver (k : Slot) : (withdrawMaps k s).mgmt.receiver = s.mgmt.receiver := rfl
@[simp] theorem withdraw_receiver (k : Slot) : (withdraw k s).mgmt.receiver = s.mgmt.receiver := by
  rw [withdraw, withdrawMaps_receiver, withdrawService_receiver]; exact withdrawPower_receiver _ k
@[simp] theorem faultEntry_receiver (k : Slot) (reason : FaultReason) (code : Option Byte) :
    (faultEntry k reason code s).mgmt.receiver = s.mgmt.receiver := by
  rw [faultEntry]; exact withdraw_receiver s k
@[simp] theorem reportFault_receiver (k : Slot) (e : Epoch) (reason : FaultReason) (code : Option Byte) :
    (reportFault k e reason code s).mgmt.receiver = s.mgmt.receiver := by
  rcases reportFault_cases s k e reason code with ⟨-, -, h⟩ | ⟨-, h⟩ <;> rw [h]
  exact faultEntry_receiver s k reason code
@[simp] theorem enterIdentifying_receiver (k : Slot) : (enterIdentifying k s).mgmt.receiver = s.mgmt.receiver := rfl
@[simp] theorem admissionGate_receiver (k : Slot) : (admissionGate k s).mgmt.receiver = s.mgmt.receiver := by
  unfold admissionGate; split <;> rfl

end Sys2Proof.Machine
end

