-- ==== Sys2Proof/Laws/Store.lean ====
section
/-!
SUPPORT. The Parameter Store: a byte read back after a write, and the canonical form kept by every operation.
-/
namespace Sys2Proof.Machine

/-! ## Reading after writing -/

theorem cellsRise_weaken {lower lower' : Option Nat} {cs : List Host.Cell} (h : cellsRise lower cs = true)
    (hl : ∀ a, lower' = some a → ∃ b, lower = some b ∧ a ≤ b) : cellsRise lower' cs = true := by
  cases cs with
  | nil => rfl
  | cons c rest =>
    obtain ⟨a, b⟩ := c
    simp only [cellsRise, Bool.and_eq_true] at h ⊢
    refine ⟨⟨?_, h.1.2⟩, h.2⟩
    cases lower' with
    | none => rfl
    | some x =>
      obtain ⟨y, rfl, hy⟩ := hl x rfl
      have := h.1.1
      simp only [Option.all_some, decide_eq_true_eq] at this ⊢
      omega

/-- Below its lower bound a rising list holds no cell. -/
theorem cellAt_of_le {lower : Nat} {cs : List Host.Cell} (h : cellsRise (some lower) cs = true) {o : Nat}
    (ho : o ≤ lower) : cellAt cs o = 0 := by
  induction cs generalizing lower with
  | nil => rfl
  | cons c rest ih =>
    obtain ⟨a, b⟩ := c
    simp only [cellsRise, Bool.and_eq_true, Option.all_some, decide_eq_true_eq] at h
    have hne : a ≠ o := by omega
    simp only [cellAt, if_neg hne]
    exact ih h.2 (by omega)

theorem cellAt_putCell_same {lower : Option Nat} {cs : List Host.Cell} (h : cellsRise lower cs = true) (o : Nat)
    (v : Byte) : cellAt (putCell o v cs) o = v := by
  induction cs generalizing lower with
  | nil =>
    by_cases hv : v = 0
    · subst hv; simp [putCell, cellAt]
    · have hv' : v ≠ 0#8 := hv
      simp [putCell, cellAt, hv']
  | cons c rest ih =>
    obtain ⟨a, b⟩ := c
    simp only [cellsRise, Bool.and_eq_true] at h
    simp only [putCell]
    split
    · rename_i e
      subst e
      split
      · rename_i hv
        rw [hv]; exact cellAt_of_le h.2 (Nat.le_refl _)
      · simp [cellAt]
    · rename_i hne
      split
      · rename_i hlt
        split
        · rename_i hv
          rw [hv]
          simp only [cellAt, if_neg hne]
          exact cellAt_of_le h.2 (by omega)
        · simp [cellAt]
      · simp only [cellAt, if_neg hne]
        exact ih h.2

theorem cellAt_putCell_of_ne {cs : List Host.Cell} {o p : Nat} (hp : p ≠ o) (v : Byte) :
    cellAt (putCell o v cs) p = cellAt cs p := by
  induction cs with
  | nil =>
    by_cases hv : v = 0
    · subst hv; simp [putCell]
    · have hv' : v ≠ 0#8 := hv
      simp [putCell, cellAt, hv', Ne.symm hp]
  | cons c rest ih =>
    obtain ⟨a, b⟩ := c
    simp only [putCell]
    split
    · rename_i e
      subst e
      split
      · simp [cellAt, Ne.symm hp]
      · simp [cellAt, Ne.symm hp]
    · split
      · split
        · rfl
        · simp [cellAt, Ne.symm hp]
      · simp only [cellAt, ih]

/-- A byte written inside the store reads back (R70, R71). -/
theorem Memory.read_write_same {m : Memory} (h : m.wf = true) {o : Nat} (ho : o < Config.storeSize) (v : Byte) :
    (m.write o v).read o = v := by
  simp only [Memory.wf, Bool.and_eq_true] at h
  simp only [Memory.write, if_pos ho, Memory.read]
  exact cellAt_putCell_same h.1 o v

/-- A write leaves every other byte (R70). -/
theorem Memory.read_write_of_ne (m : Memory) {o p : Nat} (hp : p ≠ o) (v : Byte) : (m.write o v).read p = m.read p := by
  simp only [Memory.write]
  split
  · exact cellAt_putCell_of_ne hp v
  · rfl

/-! ## The canonical form -/

theorem cellsRise_putCell {lower : Option Nat} {cs : List Host.Cell} (h : cellsRise lower cs = true) {o : Nat}
    (ho : lower.all (· < o) = true) (v : Byte) : cellsRise lower (putCell o v cs) = true := by
  induction cs generalizing lower with
  | nil =>
    by_cases hv : v = 0
    · subst hv; simp [putCell, cellsRise]
    · have hv' : v ≠ 0#8 := hv
      simp [putCell, hv', cellsRise, ho]
  | cons c rest ih =>
    obtain ⟨a, b⟩ := c
    have hc := h
    simp only [cellsRise, Bool.and_eq_true] at h
    simp only [putCell]
    split
    · rename_i e
      subst e
      split
      · refine cellsRise_weaken h.2 fun x hx => ⟨a, rfl, ?_⟩
        subst hx
        simp only [Option.all_some, decide_eq_true_eq] at ho
        omega
      · rename_i hv
        have hv' : v ≠ 0#8 := hv
        simp [cellsRise, ho, hv', h.2]
    · rename_i hne
      split
      · rename_i hlt
        split
        · exact hc
        · rename_i hv
          simp only [cellsRise, Bool.and_eq_true, Option.all_some, decide_eq_true_eq]
          exact ⟨⟨ho, hv⟩, ⟨hlt, by simpa using h.1.2⟩, h.2⟩
      · rename_i hge
        simp only [cellsRise, Bool.and_eq_true]
        refine ⟨h.1, ih h.2 ?_⟩
        simp only [Option.all_some, decide_eq_true_eq]
        omega

theorem putCell_bounded {cs : List Host.Cell} {n : Nat} (h : ∀ c ∈ cs, c.1 < n) {o : Nat} (ho : o < n) (v : Byte) :
    ∀ c ∈ putCell o v cs, c.1 < n := by
  induction cs with
  | nil =>
    intro c hc
    by_cases hv : v = 0
    · subst hv; simp [putCell] at hc
    · rw [putCell, if_neg hv, List.mem_singleton] at hc
      subst hc; exact ho
  | cons d rest ih =>
    obtain ⟨a, b⟩ := d
    have hrest : ∀ c ∈ rest, c.1 < n := fun c hc => h c (List.mem_cons_of_mem _ hc)
    have hhead : a < n := h (a, b) List.mem_cons_self
    intro c hc
    simp only [putCell] at hc
    split at hc
    · split at hc
      · exact hrest c hc
      · rcases List.mem_cons.mp hc with rfl | hc
        · exact ho
        · exact hrest c hc
    · split at hc
      · split at hc
        · exact h c hc
        · rcases List.mem_cons.mp hc with rfl | hc
          · exact ho
          · exact h c hc
      · rcases List.mem_cons.mp hc with rfl | hc
        · exact hhead
        · exact ih hrest c hc

/-- A write keeps the canonical form. -/
theorem Memory.write_wf {m : Memory} (h : m.wf = true) (o : Nat) (v : Byte) : (m.write o v).wf = true := by
  simp only [Memory.write]
  split
  · rename_i ho
    simp only [Memory.wf, Bool.and_eq_true, List.all_eq_true, decide_eq_true_eq] at h ⊢
    exact ⟨cellsRise_putCell h.1 rfl v, putCell_bounded h.2 ho v⟩
  · exact h

/-- Writing a range keeps the canonical form. -/
theorem Memory.writeRange_wf {m : Memory} (h : m.wf = true) (o : Nat) (data : List Byte) :
    (m.writeRange o data).wf = true := by
  induction data generalizing m o with
  | nil => exact h
  | cons v rest ih => exact ih (Memory.write_wf h o v) (o + 1)

/-- The store of the reset state is in canonical form. -/
theorem Library.reset_store_wf : Library.reset.store.wf = true := rfl

end Sys2Proof.Machine
end

