-- ==== Sys2Proof/Tests/Slice0.lean ====
section
/-!
SUPPORT. Tests: the ill-formed terms that WellFormed refuses, figures worked in the manual, one step of each command, and
for each obligation with hypotheses a state and operands that meet them.
-/
namespace Sys2Proof.Tests

open Sys2Proof Sys2Proof.Machine

/-! ## Small states -/

/-- The state a command answers; every command answers one. -/
def after (c : Instr) (s : State) : State :=
  match exec c s with
  | .next t => t
  | _ => s

/-- What Host.Outcome.next carries. -/
def nextOf (o : Host.Outcome State Fault Refusal) : Option State :=
  match o with
  | .next t => some t
  | _ => none

def anyCard : IdentityRecord := { vendor := 0x0102, type := 3, hardware := 4, format := 1, firmware := 0x0506, serial := 7 }

/-- A slot with a card present; one that names a profile has read its card's record. -/
def slotAt (x : SlotState) (e : Epoch) (p : Option ProfileIndex) : SlotRecord :=
  { SlotRecord.reset with state := x, epoch := e, profileIndex := p, cardPresent := true, identity := p.map fun _ => anyCard }

def seated : PresenceRecord := { phase := .seated, timer := .stopped, line := true, auxSupply := true }

/-- The power record of a slot that holds a claim. -/
def fed (e : Epoch) : PowerRecord :=
  { mainSupply := true, claim := some ⟨100, e⟩, rampTimer := none, filter := false, monitoring := true, powerGood := true }

def profileOfLengths (out inp align : Nat) (records : List ParameterRecord) : Profile :=
  { valid := true, locked := false, powerDraw := 100, rampTime := 20, configTimeout := 500, outputLength := out
    inputLength := inp, alignment := align, safeMode := .zero, patternOffset := none, records := records }

/-- The profiles of section 12.2: 6 and 3 as there, 1, 2 and 4 for the cards in slots 2, 5 and 9. -/
def library : Library :=
  { profiles := #v[Profile.reset, profileOfLengths 8 4 1 [], profileOfLengths 0 32 1 [], profileOfLengths 0 4 1 [],
      profileOfLengths 16 16 1 [], Profile.reset, profileOfLengths 16 8 4 [⟨100, 70, 9⟩, ⟨200, 1, 10⟩]]
      ++ Vector.replicate 25 Profile.reset
    store := { cells := [⟨100, 17⟩, ⟨163, 18⟩, ⟨164, 19⟩] } }

def entry2 : MapEntry := ⟨1, 3, 1, some ⟨0, 8⟩, some ⟨0, 4⟩⟩
def entry5 : MapEntry := ⟨4, 3, 2, none, some ⟨4, 32⟩⟩
def entry9 : MapEntry := ⟨8, 3, 4, some ⟨8, 16⟩, some ⟨36, 16⟩⟩
def entry14 : MapEntry := ⟨13, 1, 3, none, some ⟨52, 4⟩⟩

/-- The map of section 7.6 with slots 2, 5 and 9, and the offer of section 12.2 that adds slot 14. -/
def activeMap : ImageMap := ⟨40, [entry2, entry5, entry9]⟩
def offeredMap : ImageMap := ⟨41, [entry2, entry5, entry9, entry14]⟩

def noCyc : CycleSlot := CycleSlot.reset

/-- The rack of section 12.2 before its step 1, in RUN: slots 2, 5 and 9 RUNNING with epoch 3. -/
def rack : State :=
  { State.reset with
    slots := #v[SlotRecord.reset, slotAt .running 3 (some 1), SlotRecord.reset, SlotRecord.reset, slotAt .running 3 (some 2),
      SlotRecord.reset, SlotRecord.reset, SlotRecord.reset, slotAt .running 3 (some 4), SlotRecord.reset, SlotRecord.reset,
      SlotRecord.reset, SlotRecord.reset, SlotRecord.reset, SlotRecord.reset, SlotRecord.reset]
    presence := #v[PresenceRecord.reset false, seated, PresenceRecord.reset false, PresenceRecord.reset false, seated,
      PresenceRecord.reset false, PresenceRecord.reset false, PresenceRecord.reset false, seated, PresenceRecord.reset false,
      PresenceRecord.reset false, PresenceRecord.reset false, PresenceRecord.reset false, PresenceRecord.reset false,
      PresenceRecord.reset false, PresenceRecord.reset false]
    library := library
    power := { PowerController.reset with
      slots := #v[PowerRecord.reset false, fed 3, PowerRecord.reset false, PowerRecord.reset false, fed 3,
        PowerRecord.reset false, PowerRecord.reset false, PowerRecord.reset false, fed 3, PowerRecord.reset false,
        PowerRecord.reset false, PowerRecord.reset false, PowerRecord.reset false, PowerRecord.reset false,
        PowerRecord.reset false, PowerRecord.reset false] }
    maps := { MapBuilder.reset with active := activeMap }
    cycle := { CycleEngine.reset with
      rackState := .run, lastCount := some 5, watchdog := some 1000
      slots := #v[noCyc, ⟨0, [1, 2, 3, 4, 5, 6, 7, 8], [9, 10, 11, 12], true, false⟩, noCyc, noCyc,
        ⟨2, [], List.replicate 32 7, true, false⟩, noCyc, noCyc, noCyc,
        ⟨0, List.replicate 16 5, List.replicate 16 6, true, true⟩, noCyc, noCyc, noCyc, noCyc, noCyc, noCyc, noCyc] }
    mgmt := { Management.reset with
      settings := { RackSettings.reset with
        rate := .mbit12, period := 250, reserve := 120, budget := 900, admission := .opened } } }

theorem test_rack : (rackCondition rack, exchangeLength rack.maps.active.entries, sumOfClaims rack) = (.steady, 1112, 300) := by
  decide

/-! ## A sound state with a slot in every slot state -/

def poweredAs (main : Bool) (ramp : Option Nat) (e : Epoch) : PowerRecord :=
  { fed e with mainSupply := main, rampTimer := ramp, monitoring := false }

/-- The pass-through that waits in `busy`: a CARD READ of slot 2. -/
def waitingRead : Transaction :=
  { identRead 1 3 with kind := .paramRead, origin := .passThrough, parameter := some 5, totalLength := 8, replyTag := some 77 }

/-- Step 8 of section 12.2 about to happen, with further slots in the other slot states: slot 3's second segment on the
backplane, slot 6 RAMPING, slot 8 behind it, slot 4 waiting for power, slot 14 MAP_PENDING and slot 12 in MAP_WAIT. -/
def busy : State :=
  { rack with
    slots := #v[slotAt .identifying 2 none, slotAt .running 3 (some 1), slotAt .configuring 9 (some 6),
      { slotAt .powerWait 1 (some 6) with parkReason := some .power }, slotAt .running 3 (some 2), slotAt .ramping 1 (some 6),
      SlotRecord.reset, slotAt .rampQueued 1 (some 3), slotAt .running 3 (some 4),
      { slotAt .faulted 1 (some 6) with faultReason := some .cardRefused, cardCode := some 9, faultRun := 1 },
      { slotAt .quarantined 4 none with faultReason := some .responseLost, faultRun := 3, cardPresent := false },
      slotAt .mapWait 1 (some 6), { SlotRecord.reset with state := .settling }, slotAt .mapPending 1 (some 3),
      slotAt .present 1 none, SlotRecord.reset]
    presence := #v[seated, seated, seated, seated, seated, seated, PresenceRecord.reset false, seated, seated, seated,
      ⟨.inserting, .insertion 100 4, true, false⟩, seated, ⟨.inserting, .insertion 100 0, true, false⟩, seated,
      ⟨.removing, .removal 5, false, true⟩, PresenceRecord.reset false]
    matcher := { Matcher.reset with attempts := amend Matcher.reset.attempts 0 fun _ => some ⟨2, 3⟩ }
    power :=
      { slots := #v[PowerRecord.reset false, fed 3, fed 9, PowerRecord.reset false, fed 3, poweredAs true (some 20) 1,
          PowerRecord.reset false, poweredAs false none 1, fed 3, PowerRecord.reset false, PowerRecord.reset false, fed 1,
          PowerRecord.reset false, { fed 1 with filter := true }, PowerRecord.reset false, PowerRecord.reset false]
        waitList := [3], rampQueue := [7], arbiter := some 5 }
    service :=
      { queue := [identRead 0 2, waitingRead]
        inFlight := some { downloadWrite 2 9 1 ⟨100, 70, 9⟩ with position := 64 }
        segment := some { live := true, timedOut := false, bitTime := 80, telegram := [3, 129] }
        downloads := amend ServiceChannel.reset.downloads 2 fun _ => some ⟨9, 6, .record 1, 500⟩ }
    maps := { rack.maps with offered := some offeredMap, changes := [.add 11] }
    cycle := { rack.cycle with holder := some ⟨.offered, 6, List.replicate 24 1⟩ }
    mgmt := { rack.mgmt with
      notices := [⟨1, .slot 13 .mapPending 1 none false⟩, ⟨255, .mapOffered 41 [13] []⟩]
      transmitter := .sendingReply [130], replyQueue := [⟨1, 34, .done, [0]⟩]
      outstanding := [⟨77, 1, 3, false⟩] } }

theorem all_of_get {α : Type} {o : Option α} {p : α → Prop} [DecidablePred p] (h : o.all (fun a => decide (p a)) = true) :
    ∀ a, o = some a → p a := by
  rintro a rfl
  simpa using h

theorem witness_TablesSound : TablesSound busy := by
  refine ⟨by unfold SettingsSound; decide, fun i => ?_, by decide⟩
  unfold ProfileSound
  fin_cases i <;> exact ⟨by decide, by decide, by decide, by decide, by decide, by decide, by decide,
    all_of_get (by decide), by decide, by decide, by decide⟩

theorem entriesSound_of_offered : EntriesSound offeredMap.entries := by
  refine ⟨by decide, ⟨?_, by decide⟩, ⟨?_, by decide⟩⟩ <;>
    simp [offeredMap, entry2, entry5, entry9, entry14] <;> grind

theorem entriesSound_of_active : EntriesSound activeMap.entries := by
  refine ⟨by decide, ⟨?_, by decide⟩, ⟨?_, by decide⟩⟩ <;> simp [activeMap, entry2, entry5, entry9] <;> grind

theorem witness_MapsSound : MapsSound busy := by
  refine ⟨entriesSound_of_active, by decide, by decide, ?_⟩
  rintro m ⟨⟩
  exact ⟨entriesSound_of_offered, by decide, by decide⟩

theorem witness_HeadLinkSound : HeadLinkSound busy := by
  unfold HeadLinkSound NoticesSound UpstreamSound passThroughKinds
  decide

theorem witness_CycleSound : CycleSound busy := by
  refine ⟨by decide, by decide, by decide, by decide, by decide, ?_, by decide⟩
  rintro x ⟨⟩

theorem witness_PowerSound : PowerSound busy := by
  refine ⟨fun k => ?_, by decide, by decide, by decide⟩
  fin_cases k <;> exact ⟨by decide, by decide, by decide, by decide, by decide, all_of_get (by decide), by decide, by decide,
    by decide⟩

theorem witness_PresenceSound : PresenceSound busy := by
  intro k
  refine ⟨by revert k; decide, ?_⟩
  fin_cases k
  all_goals first
    | exact And.intro (by decide) (And.intro (by decide) (And.intro (by decide) (by decide)))
    | exact And.intro (by decide) (And.intro ⟨_, rfl⟩ (And.intro (by decide) (by decide)))

theorem witness_RecordsSound : RecordsSound busy := by
  unfold RecordsSound
  decide

theorem witness_IdentitySound : IdentitySound busy := by
  unfold IdentitySound
  decide

theorem witness_ServiceSound : ServiceSound busy := by
  refine ⟨fun k => ?_, by unfold passThroughKinds; decide, by decide⟩
  fin_cases k
  all_goals first
    | exact And.intro (by decide) (And.intro (by decide) (by decide))
    | exact And.intro (by decide) ⟨_, _, rfl, by decide, by decide, rfl, by decide, by decide⟩
    | exact And.intro (by decide) ⟨_, _, rfl, by decide, rfl, by decide, by decide⟩

theorem witness_MapSlotsSound : MapSlotsSound busy := by
  intro k
  refine ⟨fun h => ?_, fun h => ?_, by revert k; decide, by revert k; decide, by revert k; decide⟩
  · fin_cases k <;> first | exact absurd h (by decide) | skip
    all_goals exact ⟨_, rfl, by decide, by rintro m ⟨⟩; rfl⟩
  · fin_cases k <;> first | exact absurd h (by decide) | skip
    exact ⟨_, rfl, _, rfl, by decide⟩

theorem witness_BuffersSound : BuffersSound busy := by
  refine ⟨fun k e h he _ => ?_, ?_, all_of_get (by decide)⟩
  · revert h e
    fin_cases k
    all_goals first
      | exact fun e he h => absurd h (by decide)
      | (intro e he h; revert e; exact all_of_get (by decide))
  · rintro x ⟨⟩

/-! ## Well-formedness: each check refuses an ill-formed term -/

theorem test_illFormed_segmentEnd : (Instr.segmentEnd (List.replicate 73 0)).wellFormed = false := by decide
theorem test_wellFormed_segmentEnd : (Instr.segmentEnd (List.replicate 72 0)).wellFormed = true := by decide
theorem test_illFormed_responseWindowClose : (Instr.responseWindowClose true (List.replicate 135 0)).wellFormed = false := by
  decide +kernel
theorem test_illFormed_unknownRequest : (Instr.unknownRequest 7 16 []).wellFormed = false := by decide
theorem test_wellFormed_unknownRequest : (Instr.unknownRequest 7 2 []).wellFormed = true := by decide
theorem test_illFormed_cycleFrame : (Instr.cycleFrame (List.replicate 1276 0)).wellFormed = false := by
  decide +kernel
theorem test_illFormed_unknownRequest_long : (Instr.unknownRequest 7 2 (List.replicate 1274 0)).wellFormed = false := by
  decide +kernel

/-- Every request's check is `argsFit`. -/
theorem test_illFormed_requests : ∀ c ∈ ([.noticeFetch 7, .slotMode 7, .slotStart 7, .slotStop 7, .slotClear 7, .slotRead 7,
    .profileLoad 7, .profileDrop 7, .profilePurge 7, .profileRead 7, .ruleWrite 7, .ruleRead 7, .ruleDefault 7, .storeWrite 7,
    .storeRead 7, .rackSet 7, .rackRead 7, .mapRead 7, .cardRead 7, .cardWrite 7, .restart 7] : List (List Byte → Instr)),
    (c (List.replicate 1274 0)).wellFormed = false := by
  decide +kernel

/-! ## Figures from outside the model -/

/-- "123456789", of which the CRC catalogues give both check values. -/
def digits : List Byte := [49, 50, 51, 52, 53, 54, 55, 56, 57]

theorem test_crc16_check : crc16 digits = 0x29B1 := by decide +kernel
theorem test_crc32_check : crc32 digits = 0xCBF43926 := by decide +kernel

/-- Section 7.6: 25 Mbit/s, T 1000, A 200; and the same map at 12.5 Mbit/s, T 250, A 120. -/
theorem test_fit_of_section_7_6 :
    (exchangeTime .mbit25 activeMap.entries, freeTime RackSettings.reset activeMap.entries,
      exchangeTime .mbit12 activeMap.entries, freeTime rack.settings activeMap.entries) = (44480, 735, 88960, 21) := by decide
theorem test_extents_of_section_7_6 :
    (outputExtent activeMap.entries, inputExtent activeMap.entries) = (24, 52) := by decide

/-- Section 12.2: the map of generation 41 costs 98,880 ns. -/
theorem test_offer_of_section_12_2 : exchangeTime .mbit12 offeredMap.entries = 98880 := by decide

/-- A NOTICE FETCH frame is read back from its bytes, and one with a flipped bit is discarded (R169). -/
theorem test_receive_noticeFetch : receiveFrame false (withCrc32 [2, 7, 1]) = .noticeFetch 7 [] := by decide +kernel
theorem test_receive_flipped : receiveFrame false ([2, 7, 1] ++ word32 (crc32 [2, 7, 0])) = .badCrcFrame := by decide +kernel
theorem test_no_table_word : decodeTableWord 8 0 = none := rfl

/-! ## One step of each command -/

/-- The step takes the front command and leaves the rest. -/
theorem test_step_order :
    (nextOf (step { rack with pending := [.badCrcFrame, .build] })).map (fun t => (t.pending, t.mgmt.counters.badCrc))
      = some ([.build], 1) := by decide

def rackWithLine : State := rack.modPres 11 fun r => { r with line := true }

theorem test_coldReset : let t := after .coldReset rackWithLine
    ((t.slot 11).state, (t.slot 1).epoch, t.maps.active.generation, t.settings.period) = (.settling, 0, 1, 1000) := by decide
theorem test_presenceLineAsserted : let t := after (.presenceLineAsserted 11) rack
    ((t.slot 11).state, (t.pres 11).timer) = (.settling, .insertion 100 0) := by decide
theorem test_presenceLineDeasserted : ((after (.presenceLineDeasserted 12) busy).slot 12).state = .empty := by decide

/-- Step 2 of section 12.2: IDENTIFYING with epoch 1, its IDENT READ queued. -/
theorem test_insertionDebounceExpiry : let t := after (.insertionDebounceExpiry 11) (after (.presenceLineAsserted 11) rack)
    ((t.slot 11).state, (t.slot 11).epoch, t.service.queue) = (.identifying, 1, [identRead 11 1]) := by decide

/-- An epoch of 255 is followed by 0 (R3). -/
theorem test_insertionDebounceExpiry_wraps :
    ((after (.insertionDebounceExpiry 12)
      ((busy.modSlot 12 fun r => { r with epoch := 255 }).modPres 12 fun r => { r with timer := .insertion 100 255 })).slot
        12).epoch = 0 := by decide
theorem test_removalDebounceExpiry : let t := after (.removalDebounceExpiry 14) busy
    ((t.slot 14).state, (t.pres 14).phase, (t.pres 14).auxSupply, (t.slot 14).epoch) = (.empty, .absent, false, 1) := by decide

/-- The header of an IDENT READ of slot 12: slot, kind 0 with the last-segment bit, no parameter, position, length. -/
theorem test_segmentStart :
    (after .segmentStart { rack with service := { rack.service with queue := [identRead 11 1] } }).service.segment.map
      (fun g => g.telegram.take 6) = some [12, 128, 0, 0, 0, 0] := by decide
theorem test_segmentResponseTimeout : (after .segmentResponseTimeout busy).service.segment.map (·.timedOut) = some true := by
  decide

/-- The last segment of slot 3's first record is accepted: its second record is queued behind the rest (R101). -/
theorem test_segmentEnd_accept : let t := after (.segmentEnd (withCrc16 [3, 1, 0, 0, 64, 0])) busy
    (t.service.inFlight, t.download 2, t.service.queue.map (·.parameter))
      = (none, some ⟨9, 6, .record 2, 500⟩, [none, some 5, some 10]) := by decide +kernel

/-- A REFUSE with card code 9 faults the slot (R103). -/
theorem test_segmentEnd_refuse : let t := after (.segmentEnd (withCrc16 [3, 2, 9, 0, 64, 0])) busy
    ((t.slot 2).state, (t.slot 2).faultReason, (t.slot 2).cardCode, (t.pow 2).claim)
      = (.faulted, some .cardRefused, some 9, none) := by decide +kernel

/-- Step 4 of section 12.2: CONFIGURING, and the next slot of the Ramp Queue ramps. -/
theorem test_rampEnd_good : let t := after (.rampEnd 5) busy
    ((t.slot 5).state, (t.slot 7).state, t.power.arbiter, t.power.rampQueue) = (.configuring, .ramping, some 7, []) := by decide
theorem test_rampEnd_bad : let t := after (.rampEnd 5) (after (.powerGoodDeasserted 5) busy)
    ((t.slot 5).faultReason, (t.pow 5).mainSupply, (t.slot 3).state, t.power.arbiter)
      = (some .powerFail, false, .rampQueued, some 7) := by decide
theorem test_powerGoodDeasserted : ((after (.powerGoodDeasserted 1) busy).pow 1).filter = true := by decide
theorem test_powerGoodAsserted : ((after (.powerGoodAsserted 13) busy).pow 13).filter = false := by decide

/-- Step 2 of section 12.3: POWER_LOST in MAP_PENDING, and a DROP because the newest map holds the entry. -/
theorem test_powerGoodFilterExpiry : let t := after (.powerGoodFilterExpiry 13) busy
    ((t.slot 13).faultReason, (t.slot 13).faultRun, t.maps.changes) = (some .powerLost, 1, [.add 11, .drop 13]) := by decide
theorem test_configurationTimeout : let t := after (.configurationTimeout 2) busy
    ((t.slot 2).faultReason, t.service.inFlight, t.download 2) = (some .configTimeout, none, none) := by decide

/-- Slot 14 waits with an ADD, as before step 6 of section 12.2. -/
def due14 : State :=
  { rack with
    slots := amend rack.slots 13 fun _ => slotAt .mapWait 1 (some 3), maps := { rack.maps with changes := [.add 13] } }

/-- Step 6 of section 12.2: generation 41 with slot 14's input region at [52,56). -/
theorem test_build_step6 : (after .build due14).maps.offered = some offeredMap := by decide

/-- Step 10 of section 12.2: slot 5 stopped; slot 12, parked before, is placed at [24,40) and [4,12). -/
def due12 : State :=
  { rack with
    slots := amend (amend rack.slots 11 fun _ => { slotAt .mapWait 1 (some 6) with parkReason := some .cycle }) 4 fun _ =>
      slotAt .present 3 none
    maps := { rack.maps with active := ⟨41, offeredMap.entries⟩, changes := [.drop 4], waitList := [11] } }

theorem test_build_step10 :
    (after .build due12).maps.offered.map (fun m => (m.generation, exchangeTime .mbit12 m.entries, entryOf m.entries 11))
      = some (42, 92480, some ⟨11, 1, 6, some ⟨24, 16⟩, some ⟨4, 8⟩⟩) := by decide

/-- Frames of the active generation 40 and of the offered 41, cycle count 9, 24 output bytes. -/
def frame40 : List Byte := [0, 40, 0, 9, 0, 24] ++ List.replicate 24 3
def frame41 : List Byte := [0, 41, 0, 9, 0, 24] ++ List.replicate 24 3

theorem test_cycleFrame_served : let t := after (.cycleFrame frame40) rack
    (t.cycle.holder, t.cycle.exchange.map (fun x => x.addressed.map (·.slot)), (t.cyc 1).lastOutput)
      = (none, some [1, 4, 8], List.replicate 8 3) := by decide
theorem test_cycleFrame_overlap : let t := after (.cycleFrame frame41) busy
    (t.mgmt.counters.overlap, t.mgmt.returnLine.map (·.result)) = (1, [.overlap]) := by decide

/-- Step 8 of section 12.2: the swap, and slot 14 RUNNING and addressed. -/
theorem test_frameServiceStart : let t := after .frameServiceStart { busy with service := ServiceChannel.reset }
    (t.maps.active.generation, t.maps.offered, (t.slot 13).state, t.cycle.exchange.map fun x => x.telegram.take 7)
      = (41, none, .running, some [1, 0x21, 0x12, 0, 24, 0, 0]) := by decide

/-- An exchange that has heard slot 2 and missed slot 5. -/
def gathering : State :=
  { rack with cycle := { rack.cycle with
      exchange := some
        { kind := .normal 5, addressed := [⟨1, 3, 4⟩, ⟨4, 3, 32⟩, ⟨8, 3, 16⟩], outcomes := [.good [8, 8, 8, 8] true, .miss]
          bitTime := 80, telegram := [1], cut := false } } }

/-- The same with slot 9's window closed too. -/
def heardAll : State := after (.responseWindowClose false []) gathering

theorem test_responseWindowClose_good :
    (after (.responseWindowClose true (withCrc16 ([9, 254, 0, 16] ++ List.replicate 16 1))) gathering).cycle.exchange.map
      (fun x => x.outcomes.getLast?) = some (some (.good (List.replicate 16 1) false)) := by decide +kernel
theorem test_responseWindowClose_late : heardAll.cycle.exchange.map (fun x => x.outcomes.getLast?) = some (some .miss) := by decide

/-- Slot 5's third miss faults it at limit 3, slot 9 gets its first, and the Return Frame is sent. -/
theorem test_exchangeEnd : let t := after .exchangeEnd heardAll
    ((t.slot 4).faultReason, (t.cyc 8).missCount, (t.cyc 1).lastInput, t.mgmt.transmitter.casesOn true (fun _ => false) fun _ => true,
      t.maps.changes) = (some .responseLost, 1, [8, 8, 8, 8], false, [.drop 4]) := by decide
theorem test_cycleWatchdogExpiry : let t := after .cycleWatchdogExpiry rack
    (t.cycle.rackState, t.cycle.safeDue, t.cycle.safeTimer, t.mgmt.notices) = (.safe, true, some 250, [⟨1, .rackSafe 5⟩]) := by
  decide

def safeRack : State := after .cycleWatchdogExpiry rack

/-- The watchdog expires with a frame held: both may start, and the safe exchange leaves the frame in the holder (log 33). -/
theorem test_watchdog_with_held_frame : let t := after .cycleWatchdogExpiry (after (.cycleFrame frame40) gathering)
    (t.cycle.holder.isSome, t.cycle.safeDue, t.cycle.rackState) = (true, true, .safe) := by decide

theorem test_safeExchangeTimerExpiry :
    (after .safeExchangeTimerExpiry (after .safeExchangeStart safeRack)).cycle.safeDue = true := by decide

/-- A safe exchange in mode ZERO: kind 2, slots 2, 5 and 9, 24 bytes of zeros. -/
theorem test_safeExchangeStart :
    (after .safeExchangeStart safeRack).cycle.exchange.map (fun x => x.telegram.take 31)
      = some ([2, 1, 0x12, 0, 24, 0, 0, 0] ++ List.replicate 23 0) := by decide
theorem test_badCrcFrame : (after .badCrcFrame rack).mgmt.counters.badCrc = 1 := by decide

def countersFull : State := modCounters (fun c => { c with badCrc := 65535 }) rack

theorem test_badCrcFrame_holds : (after .badCrcFrame countersFull).mgmt.counters.badCrc = 65535 := by decide
theorem test_upstreamFrameEnd : let t := after .upstreamFrameEnd busy
    (t.mgmt.transmitter, t.mgmt.replyQueue) = (.sendingReply (withCrc32 [130, 1, 34, 0, 0, 0]), []) := by decide +kernel

/-- The reply that waits last. -/
def replyOf (c : Instr) (s : State) : Option ReplyFrame := (after c s).mgmt.replyQueue.getLast?

theorem test_unknownRequest : replyOf (.unknownRequest 7 2 []) busy = some ⟨7, 2, .refused .badArgument, []⟩ := by decide
theorem test_noticeFetch : replyOf (.noticeFetch 7 []) busy
    = some ⟨7, 1, .done, [2, 0, 1, 1, 14, 9, 1, 0, 0, 0, 2, 255, 0, 41, 32, 0, 0, 0]⟩ := by decide
theorem test_slotMode : replyOf (.slotMode 7 [15, 2]) busy = some ⟨7, 16, .done, [15, 2, 2, 1]⟩ := by decide
theorem test_slotStart : let t := after (.slotStart 7 [15]) busy
    ((t.slot 14).state, t.attempt 14) = (.identifying, some ⟨1, 1⟩) := by decide

/-- Step 10 of section 12.2: stopping slot 5 queues its DROP. -/
theorem test_slotStop : let t := after (.slotStop 7 [5]) rack
    ((t.slot 4).state, (t.slot 4).mode, t.maps.changes, sumOfClaims t) = (.present, .manual, [.drop 4], 200) := by decide
theorem test_slotClear : let t := after (.slotClear 7 [11]) busy
    ((t.slot 10).state, (t.slot 10).mode, (t.slot 10).faultRun) = (.settling, .manual, 0) := by decide
theorem test_slotRead : replyOf (.slotRead 7 [10]) busy
    = some ⟨7, 20, .done, [10, 11, 0, 1, 1, 1, 0, 0, 51, 6, 0, 0, 0, 7, 9] ++ [1, 2, 0, 3, 4, 1, 5, 6, 0, 0, 0, 7]⟩ := by decide

/-- A ramp time of 0 is taken as 1 and one record is loaded (R60, R64). -/
def loadArgs : List Byte := [7, 1, 0, 50, 0, 0, 1, 0, 4, 4, 2, 1, 0, 0, 1, 0, 200, 0, 3, 66]

theorem test_profileLoad : let p := (after (.profileLoad 7 loadArgs) rack).profile 7
    (p.valid, p.locked, p.rampTime, p.safeMode, p.patternOffset, p.records)
      = (true, true, 1, .hold, none, [⟨200, 3, 66⟩]) := by decide
theorem test_profileLoad_inUse : replyOf (.profileLoad 7 (loadArgs.set 0 1)) busy = some ⟨7, 32, .refused .inUse, []⟩ := by decide
theorem test_profileDrop : ((after (.profileDrop 7 [6, 0]) rack).profile 6).valid = false := by decide
theorem test_profilePurge : replyOf (.profilePurge 7 []) (rack.modMgmt fun m => { m with transmitter := .sendingReturn [] })
    = some ⟨7, 34, .done, [2]⟩ := by decide
theorem test_profileRead : replyOf (.profileRead 7 [3]) busy
    = some ⟨7, 35, .done, [1, 0, 0, 100, 0, 20, 1, 244, 0, 4, 1, 0, 0, 0, 0, 1]⟩ := by decide
theorem test_ruleWrite : let t := after (.ruleWrite 7 [23, 1, 3, 2, 0, 0, 255, 0, 0, 0, 2, 0, 0, 1, 6]) rack
    look t.matcher.rules 23
      = { enabled := true, field := .fwRev, operator := .atLeast, mask := 0xFF00, value := 0x200, chain := false
          action := .assign, profile := 6 } := by decide
theorem test_ruleRead : replyOf (.ruleRead 7 [0]) busy = some ⟨7, 49, .done, List.replicate 16 0⟩ := by decide
theorem test_ruleDefault : (after (.ruleDefault 7 [1, 31]) rack).matcher.defaultAction = .assign 31 := by decide
theorem test_storeWrite : let t := after (.storeWrite 7 [0x3F, 0xFE, 2, 9, 0]) rack
    (t.library.store.read 16382, t.library.store.read 16383, t.library.store.cells.length) = (9, 0, 4) := by decide

/-- Profile 6 is in use and its first record covers offsets 100 to 169. -/
theorem test_storeWrite_inUse : replyOf (.storeWrite 7 [0, 169, 1, 9]) busy = some ⟨7, 64, .refused .inUse, []⟩ := by decide
theorem test_storeRead : replyOf (.storeRead 7 [0, 163, 3]) busy = some ⟨7, 65, .done, [18, 19, 0]⟩ := by decide +kernel

/-- The second row of the last table of section 7.6: a reserve of 100 µs is below the minimum of 120 µs. -/
theorem test_rackSet_noFit :
    (replyOf (.rackSet 7 [1, 0, 250, 0, 100, 3, 132, 1, 3, 2, 4, 0, 100, 5]) busy).map (·.result) = some (.refused .noFit) := by
  decide

/-- A reserve of 120 µs fits; the watchdog 1 is taken as 2 (R162, R178). -/
theorem test_rackSet_taken : let t := after (.rackSet 7 [1, 0, 251, 0, 120, 3, 132, 1, 3, 2, 1, 0, 100, 5]) rack
    (t.settings.period, t.settings.watchdog, t.maps.recheck) = (251, 2, true) := by decide
theorem test_rackRead : (after (.rackRead 7 [1]) countersFull).mgmt.counters.badCrc = 0 := by decide
theorem test_mapRead : (replyOf (.mapRead 7 [1]) busy).map (fun r => r.contents.take 2) = some [0, 41] := by decide
theorem test_cardRead : let t := after (.cardRead 7 [2, 5, 240]) busy
    (t.mgmt.outstanding, t.service.queue.getLast?.map (·.totalLength)) = ([⟨77, 1, 3, false⟩, ⟨7, 1, 3, false⟩], some 240) := by
  decide
theorem test_cardWrite_wrongState :
    replyOf (.cardWrite 7 [3, 5, 1, 0]) busy = some ⟨7, 113, .refused .wrongState, []⟩ := by decide
theorem test_restart : let t := after (.restart 7 []) busy
    ((t.slot 1).state, (t.slot 1).epoch, (t.slot 12).state, (t.slot 10).state, t.maps.active.generation, t.cycle.rackState)
      = (.identifying, 4, .settling, .settling, 1, .idle) := by decide +kernel

/-! ## Witnesses: for each obligation with hypotheses, values that meet them, clause by clause

Slots are the first and the last where the choice is free, epochs 0 and 255, lengths at the ends of their ranges. -/

/-- `busy` about to end slot 3's configuration: its claim goes to slot 4. -/
def busyStep : State := { busy with pending := [.configurationTimeout 2, .build] }

theorem witness_invariants : TablesSound busyStep ∧ MapsSound busyStep ∧ HeadLinkSound busyStep ∧ CycleSound busyStep
    ∧ PowerSound busyStep ∧ PresenceSound busyStep ∧ RecordsSound busyStep ∧ IdentitySound busyStep
    ∧ ServiceSound busyStep ∧ MapSlotsSound busyStep ∧ BuffersSound busyStep ∧ ∃ t, step busyStep = .next t :=
  ⟨witness_TablesSound, witness_MapsSound, witness_HeadLinkSound, witness_CycleSound, witness_PowerSound,
    witness_PresenceSound, witness_RecordsSound, witness_IdentitySound, witness_ServiceSound, witness_MapSlotsSound, witness_BuffersSound, _, rfl⟩

theorem witness_StepRunsFrontCommand : rack.pending = [] := rfl

theorem witness_GrantsStayWithinBudget : PowerSound busyStep ∧ ∃ t, step busyStep = .next t
    ∧ (busyStep.pow 3).claim = none ∧ (t.pow 3).claim.isSome = true :=
  ⟨witness_PowerSound, _, rfl, by decide, by decide⟩

/-- Slot 1 QUARANTINED with no card. -/
def emptyQuarantine : State := State.reset.modSlot 0 fun r =>
  { r with state := .quarantined, faultRun := 3, faultReason := some .powerFail, epoch := 255 }

theorem witness_PresenceLineMovesPhase :
    ((busy.pres 15).phase = .absent ∧ (busy.slot 15).state = .empty)
      ∧ ((emptyQuarantine.pres 0).phase = .absent ∧ (emptyQuarantine.slot 0).state ≠ .empty)
      ∧ (busy.pres 14).phase = .removing ∧ (busy.pres 12).phase = .inserting ∧ (busy.pres 0).phase = .seated := by decide

/-- Slot 16 SETTLING with epoch 255, the gate shut and open. -/
def settlingShut : State :=
  (State.reset.modSlot 15 fun r => { r with state := .settling, epoch := 255 }).modPres 15 fun _ =>
    ⟨.inserting, .insertion 10 255, true, false⟩
def settlingOpen : State := settlingShut.modMgmt fun m => { m with settings := { m.settings with admission := .opened } }

theorem witness_InsertionSettlesCard :
    (∃ d, (settlingShut.pres 15).timer = .insertion d (settlingShut.slot 15).epoch ∧ (settlingShut.slot 15).state = .settling
        ∧ ¬ ((settlingShut.slot 15).mode = .auto ∧ settlingShut.settings.admission = .opened))
      ∧ (∃ d, (settlingOpen.pres 15).timer = .insertion d (settlingOpen.slot 15).epoch
        ∧ (settlingOpen.slot 15).state = .settling ∧ (settlingOpen.slot 15).mode = .auto
        ∧ settlingOpen.settings.admission = .opened)
      ∧ ∃ d, (busy.pres 10).timer = .insertion d (busy.slot 10).epoch ∧ (busy.slot 10).state = .quarantined :=
  ⟨⟨10, by decide⟩, ⟨10, by decide⟩, ⟨100, by decide⟩⟩

/-- A card leaves slot 3 while it is CONFIGURING, and slot 1 while it is QUARANTINED. -/
def leaving : State := (busy.modPres 2 fun _ => ⟨.removing, .removal 1, false, true⟩)
def leavingQuarantine : State :=
  (emptyQuarantine.modSlot 0 fun r => { r with cardPresent := true }).modPres 0 fun _ => ⟨.removing, .removal 50, false, true⟩

theorem witness_RemovalEmptiesSlot :
    (∃ d, (leaving.pres 2).timer = .removal d ∧ (leaving.slot 2).state ≠ .empty ∧ (leaving.slot 2).state ≠ .settling
        ∧ (leaving.slot 2).state ≠ .quarantined ∧ (leaving.pow 2).claim.isSome = true)
      ∧ ∃ d, (leavingQuarantine.pres 0).timer = .removal d ∧ (leavingQuarantine.slot 0).state = .quarantined
        ∧ (leavingQuarantine.pow 0).claim = none :=
  ⟨⟨1, by decide⟩, ⟨50, by decide⟩⟩

/-- Slot 6 ramps with no slot behind it, for a profile without records. -/
def rampAlone : State :=
  { busy with
    slots := amend busy.slots 5 fun _ => slotAt .ramping 1 (some 3), power := { busy.power with rampQueue := [] } }

/-- Slot 6's ramp ends for an epoch that is past, with and without a slot behind it, and outside RAMPING. -/
def staleRamp : State := busy.modSlot 5 fun r => { r with epoch := 2 }
def staleAlone : State := rampAlone.modSlot 5 fun r => { r with epoch := 2 }
def strayRamp : State := busy.modSlot 5 fun r => { r with state := .present }

theorem test_rampEnd_stale : let t := after (.rampEnd 5) staleRamp
    ((t.slot 5).state, (t.pow 5).monitoring, (t.pow 5).rampTimer, t.download 5, t.power.arbiter)
      = (.ramping, false, none, none, some 7) := by decide

theorem witness_GoodRampStartsDownload :
    ((busy.pow 5).rampTimer.isSome = true ∧ (busy.pow 5).powerGood = true ∧ (busy.slot 5).profileIndex = some 6
        ∧ (busy.slot 5).state = .ramping ∧ (busy.pow 5).claim = some ⟨100, (busy.slot 5).epoch⟩
        ∧ (5 : Slot) ∉ busy.power.rampQueue ∧ (busy.profile 6).records = ⟨100, 70, 9⟩ :: [⟨200, 1, 10⟩]
        ∧ busy.power.rampQueue = 7 :: [])
      ∧ (rampAlone.pow 5).rampTimer.isSome = true ∧ (rampAlone.pow 5).powerGood = true
        ∧ (rampAlone.slot 5).state = .ramping ∧ (rampAlone.pow 5).claim = some ⟨100, (rampAlone.slot 5).epoch⟩
        ∧ (rampAlone.slot 5).profileIndex = some 3 ∧ (5 : Slot) ∉ rampAlone.power.rampQueue
        ∧ (rampAlone.profile 3).records = [] ∧ rampAlone.power.rampQueue = []
        ∧ ((staleRamp.pow 5).rampTimer.isSome = true ∧ (staleRamp.pow 5).claim = some ⟨100, 1⟩
          ∧ (1 : Epoch) ≠ (staleRamp.slot 5).epoch ∧ staleRamp.power.rampQueue = 7 :: [] ∧ staleRamp.power.arbiter = some 5)
        ∧ ((staleAlone.pow 5).rampTimer.isSome = true ∧ (staleAlone.pow 5).claim = some ⟨100, 1⟩
          ∧ (1 : Epoch) ≠ (staleAlone.slot 5).epoch ∧ staleAlone.power.rampQueue = [])
        ∧ (strayRamp.pow 5).rampTimer.isSome = true ∧ (strayRamp.slot 5).state ≠ .ramping := by decide

def rampFailing : State := after (.powerGoodDeasserted 5) busy

theorem witness_SupplyFaultsAndFilter :
    ((rampFailing.pow 5).rampTimer.isSome = true ∧ (rampFailing.pow 5).powerGood = false
        ∧ (rampFailing.slot 5).state = .ramping ∧ (rampFailing.pow 5).claim = some ⟨100, (rampFailing.slot 5).epoch⟩)
      ∧ ((busy.pow 13).filter = true ∧ (busy.slot 13).state.monitored = true
        ∧ (busy.pow 13).claim = some ⟨100, (busy.slot 13).epoch⟩)
      ∧ busy.download 2 = some ⟨(busy.slot 2).epoch, 6, .record 1, 500⟩ ∧ (busy.slot 2).state = .configuring := by decide

/-- Two slots wait for power, of which the budget of 900 takes the first alone; with the arbiter taken and free. -/
def waitingTwo : State :=
  { busy with
    slots := amend busy.slots 14 fun _ => { slotAt .powerWait 1 (some 6) with parkReason := some .power }
    power := { busy.power with waitList := [3, 14] } }
def arbiterFree : State := { waitingTwo with power := { waitingTwo.power with arbiter := none } }

theorem witness_ReevaluationGrantsOldestFirst :
    (waitingTwo.power.waitList.Nodup ∧ (∀ k ∈ waitingTwo.power.waitList, (waitingTwo.pow k).claim = none)
        ∧ waitingTwo.power.arbiter.isSome = true
        ∧ grantOrder (fun k => (waitingTwo.profileOf k).powerDraw) waitingTwo.settings.budget (sumOfClaims waitingTwo)
            waitingTwo.power.waitList = [3])
      ∧ (arbiterFree.power.waitList.Nodup ∧ (∀ k ∈ arbiterFree.power.waitList, (arbiterFree.pow k).claim = none)
        ∧ arbiterFree.power.arbiter = none ∧ arbiterFree.power.rampQueue = 7 :: [])
      ∧ rack.power.waitList.Nodup ∧ (∀ k ∈ rack.power.waitList, (rack.pow k).claim = none) ∧ rack.power.arbiter = none
        ∧ rack.power.rampQueue = [] := by decide

/-- The backplane free, with a transaction in flight and with one queued. -/
def freeInFlight : State :=
  { rack with service := { rack.service with inFlight := some { downloadWrite 2 9 1 ⟨100, 65, 9⟩ with position := 64 } } }
def freeQueued : State := { rack with service := { rack.service with queue := [identRead 0 255, waitingRead] } }

theorem witness_SegmentStartSendsNextSegment :
    (freeForSegment freeInFlight = true ∧ freeInFlight.service.inFlight.isSome = true ∧ freeInFlight.service.queue = [])
      ∧ (freeForSegment freeQueued = true ∧ freeQueued.service.inFlight = none
        ∧ freeQueued.service.queue = identRead 0 255 :: [waitingRead])
      ∧ freeForSegment busy = false ∧ (rack.service.inFlight = none ∧ rack.service.queue = [])
      ∧ busy.service.segment.isSome = true ∧ rack.service.segment = none := by decide

def runningSegment : Segment := { live := true, timedOut := false, bitTime := 80, telegram := [3, 129] }

/-- A PARAM READ of 64 bytes that expects them all in one segment. -/
def read64 : Transaction := { waitingRead with totalLength := 64 }
def full : List Byte := List.replicate 64 1
def answerHead (slot result code r : Byte) : List Byte := [slot, result, code, 0, 0, r]

theorem witness_AnswerClassified :
    ({ runningSegment with timedOut := true } : Segment).timedOut = true
      ∧ (runningSegment.timedOut = false ∧ (half16 (crc16 (answerHead 2 3 0 0))).length = 2
        ∧ segmentOutcome runningSegment read64 (withCrc16 (answerHead 2 3 0 0)) = .answered .busy)
      ∧ segmentOutcome runningSegment read64 (withCrc16 (answerHead 2 2 255 0)) = .answered (.refuse 255)
      ∧ (full.length = (64 : Byte).toNat
        ∧ segmentOutcome runningSegment read64 (withCrc16 (answerHead 2 1 0 64 ++ full)) = .answered (.accept full))
      ∧ (min 64 (read64.totalLength - read64.position) ≠ 0
        ∧ segmentOutcome runningSegment read64 (withCrc16 (answerHead 2 1 0 0)) = .crcError)
      ∧ segmentOutcome runningSegment read64 (withCrc16 (answerHead 2 2 0 0)) = .crcError
      ∧ segmentOutcome runningSegment read64 (withCrc16 (answerHead 3 3 0 0)) = .crcError
      ∧ segmentOutcome runningSegment read64 (answerHead 2 3 0 0 ++ [0, 0]) = .crcError
      ∧ segmentOutcome runningSegment read64 ((answerHead 2 3 0 0).take 5) = .crcError
      ∧ (answerHead 2 3 0 1 ++ [0, 0]).length < 8 + 1 := by decide +kernel

/-- A state in which a segment of `x` runs. -/
def onBackplane (x : Transaction) (s : State) : State :=
  { s with service := { s.service with
      queue := s.service.queue.filter (· != x), inFlight := some x, segment := some runningSegment } }

theorem witness_segmentRuns (x : Transaction) (s : State) : segmentRuns (onBackplane x s) runningSegment x :=
  ⟨rfl, rfl, rfl⟩

def reading : State := onBackplane (identRead 0 2) busy

/-- A card of vendor 65534, format 1; and its record's answer, in format 1 and 2. -/
def card : IdentityRecord := { vendor := 65534, type := 0x1234, hardware := 2, format := 1, firmware := 0x0102, serial := 5 }
def cardAnswer (c : IdentityRecord) : List Byte := withCrc16 (answerHead 1 1 0 12 ++ identityBytes c)

/-- The same read at its first attempt, and with the default action ASSIGN to a valid and to an invalid profile. -/
def firstAttempt : State := reading.setAttempt 0 (some ⟨2, 1⟩)
def assigning (p : ProfileIndex) (s : State) : State := { s with matcher := { s.matcher with defaultAction := .assign p } }

theorem witness_IdentAttemptEnds :
    goodRead (.answered (.accept (identityBytes card))) = some card
      ∧ ((identRead 0 2).kind = .identRead ∧ firstAttempt.attempt 0 = some ⟨2, 1⟩
        ∧ goodRead (segmentOutcome runningSegment (identRead 0 2) []) = none)
      ∧ (reading.attempt 0 = some ⟨2, 3⟩ ∧ (reading.slot 0).state = .identifying ∧ (reading.slot 0).epoch = 2)
      ∧ goodRead (segmentOutcome runningSegment (identRead 0 2) (cardAnswer { card with format := 2 }))
          = some { card with format := 2 }
      ∧ (goodRead (segmentOutcome runningSegment (identRead 0 2) (cardAnswer card)) = some card
        ∧ evaluateIdentity reading.matcher 0 card = .reject)
      ∧ evaluateIdentity (assigning 31 reading).matcher 0 card = .assign 31 ∧ ((assigning 31 reading).profile 31).valid = false := by
  decide +kernel

/-- A matching card with the budget short, with a ramp in progress, and with the arbiter free. -/
def shortBudget : State := (assigning 6 reading).modMgmt fun m => { m with settings := { m.settings with budget := 899 } }
def alone : State :=
  assigning 6 { reading with power := { reading.power with arbiter := none, rampQueue := [] } }

theorem witness_IdentMatchAsksForClaim :
    (evaluateIdentity shortBudget.matcher 0 card = .assign 6 ∧ (shortBudget.profile 6).valid = true
        ∧ (shortBudget.slot 0).state = .identifying ∧ shortBudget.settings.budget = sumOfClaims shortBudget + 100 - 1)
      ∧ ((assigning 6 reading).power.arbiter.isSome = true
        ∧ sumOfClaims (assigning 6 reading) + ((assigning 6 reading).profile 6).powerDraw
            = (assigning 6 reading).settings.budget)
      ∧ (alone.power.arbiter = none ∧ alone.power.rampQueue = [] ∧ (alone.slot 0).state = .identifying
        ∧ alone.attempt 0 = some ⟨2, 3⟩ ∧ evaluateIdentity alone.matcher 0 card = .assign 6
        ∧ sumOfClaims alone + (alone.profile 6).powerDraw ≤ alone.settings.budget) := by decide +kernel

/-- Rules 23 and 0 of the table, for the clauses on masks and groups. -/
def maskedRule : Rule := { Rule.reset with enabled := true, field := .fwRev, mask := 65280, value := 0x200, chain := true }
def rulesWithLast : Matcher := { Matcher.reset with rules := amend Matcher.reset.rules 23 fun _ => { maskedRule with mask := 0 } }

theorem witness_RuleComparison :
    (∃ o, goodRead o = some card) ∧ (0x2FF &&& maskedRule.mask = maskedRule.value &&& maskedRule.mask)
      ∧ ({ maskedRule with mask := 0 } : Rule).mask = 0
      ∧ (maskedRule.mask = 65280 ∧ maskedRule.field = .fwRev
        ∧ ({ card with firmware := 0x01FF } : IdentityRecord).firmware.extractLsb' 8 8 = card.firmware.extractLsb' 8 8)
      ∧ ({ maskedRule with field := .type } : Rule).field = .type
        ∧ ({ card with type := 0x12FF } : IdentityRecord).type.toNat / 256 = card.type.toNat / 256 :=
  ⟨⟨.answered (.accept (identityBytes card)), by decide⟩, by decide⟩

theorem witness_RuleGroupsPartition :
    (look rulesWithLast.rules 22).chain = (look Matcher.reset.rules 22).chain
      ∧ (look rulesWithLast.rules 23).chain ≠ (look Matcher.reset.rules 23).chain
      ∧ ∀ i : RuleIndex, i ≠ 23 → (look rulesWithLast.rules i).chain = (look Matcher.reset.rules i).chain := by decide +kernel

theorem witness_GroupDecidesWithFirstEnabled :
    groupDecision 0 card [Rule.reset, { maskedRule with mask := 0, action := .assign, profile := 31 }] = some (.assign 31)
      ∧ groupDecision 0 card [Rule.reset] = none
      ∧ evaluateIdentity rulesWithLast 0 card = .reject
      ∧ ((ruleGroups rulesWithLast.rules.toList).length = 24)
      ∧ ∀ g ∈ ruleGroups Matcher.reset.rules.toList, groupDecision 0 card g = none := by decide +kernel

/-- A long card write, its first segment on the backplane. -/
def write65 : Transaction := { waitingRead with kind := .paramWrite, totalLength := 65, source := some (.carried []) }

theorem witness_ParamSegmentGoesOn :
    (write65.kind ≠ .identRead ∧ write65.position + 64 < write65.totalLength ∧ write65.repeatUsed = false
        ∧ segmentOutcome runningSegment write65 (withCrc16 (answerHead 2 1 0 0)) = .answered (.accept []))
      ∧ segmentOutcome runningSegment write65 (withCrc16 (answerHead 2 3 0 0)) = .answered .busy
      ∧ segmentOutcome runningSegment write65 [] = .crcError
      ∧ segmentOutcome { runningSegment with timedOut := true } write65 [] = .noAnswer
      ∧ (busy.modService fun c => { c with segment := some { runningSegment with live := false } }).service.segment
          = some { runningSegment with live := false }
      ∧ rack.service.segment = none := by decide +kernel

/-- Slot 3's download at the last segment of record 1, of record 2, and at its commit. -/
def download1 : Transaction := { downloadWrite 2 9 1 ⟨100, 70, 9⟩ with position := 64 }
def download2 : Transaction := downloadWrite 2 9 2 ⟨200, 1, 10⟩
def atStep (d : DownloadStep) (x : Transaction) : State :=
  (onBackplane x busy).setDownload 2 (some ⟨9, 6, d, 500⟩)

theorem witness_DownloadMovesOn :
    (download1.origin = .sequencer ∧ (atStep (.record 1) download1).download 2 = some ⟨download1.epoch, 6, .record 1, 500⟩
        ∧ segmentOutcome runningSegment download1 (withCrc16 (answerHead 3 1 0 0)) = .answered (.accept [])
        ∧ download1.totalLength ≤ download1.position + 64 ∧ download1.recordNumber = some 1
        ∧ ((atStep (.record 1) download1).profile 6).records[1]? = some ⟨200, 1, 10⟩)
      ∧ (download2.recordNumber = some 2 ∧ ((atStep (.record 2) download2).profile 6).records[2]? = none)
      ∧ ((paramCommit 2 9).kind = .paramCommit ∧ ((atStep .commit (paramCommit 2 9)).slot 2).state = .configuring
        ∧ ((atStep .commit (paramCommit 2 9)).slot 2).epoch = 9)
      ∧ ((⟨9, 6, .record 1, 500⟩ : Download).awaits download1 = true
        ∧ segmentOutcome runningSegment download1 (withCrc16 (answerHead 3 2 1 0)) = .answered (.refuse 1))
      ∧ segmentOutcome runningSegment { download1 with repeatUsed := true } [] = .crcError := by decide +kernel

theorem witness_PassThroughReplies :
    (waitingRead.origin = .passThrough ∧ waitingRead.replyTag = some 77 ∧ waitingRead.parameter = some 5
        ∧ waitingRead.kind = .paramRead ∧ ⟨77, waitingRead.slot, waitingRead.epoch, false⟩ ∈ busy.mgmt.outstanding
        ∧ segmentOutcome runningSegment waitingRead (withCrc16 (answerHead 2 1 0 8 ++ full.take 8))
            = .answered (.accept (full.take 8))
        ∧ waitingRead.totalLength ≤ waitingRead.position + 64)
      ∧ segmentOutcome runningSegment waitingRead (withCrc16 (answerHead 2 2 9 0)) = .answered (.refuse 9)
      ∧ segmentOutcome runningSegment { waitingRead with repeatUsed := true } [] = .crcError := by decide +kernel

theorem witness_PlacementTakesLowestOffset :
    (placeRegion [⟨0, 8⟩, ⟨8, 16⟩] 16 4 = some (some ⟨24, 16⟩) ∧ placeRegion [⟨0, 1000⟩] 25 1 = none
        ∧ placeRegion [⟨0, 896⟩] 128 4 = some (some ⟨896, 128⟩))
      ∧ ((due12.slot 11).profileIndex = some 6 ∧ (∀ e ∈ activeMap.entries, e.slot ≠ 11))
      ∧ (placeRegion (activeMap.entries.filterMap (·.output)) 16 4 = some (some ⟨24, 16⟩)
        ∧ placeRegion (activeMap.entries.filterMap (·.input)) 8 4 = some (some ⟨52, 8⟩)
        ∧ tryPlace due12 activeMap.entries 11 = .parked .cycle)
      ∧ tryPlace due12 [] 11 = .placed ⟨11, 1, 6, some ⟨0, 16⟩, some ⟨0, 8⟩⟩
      ∧ tryPlace due12 [⟨0, 1, 1, some ⟨0, 1020⟩, none⟩] 11 = .parked .image := by decide +kernel

def tooLong : MapEntry := ⟨0, 0, 0, some ⟨0, 88⟩, some ⟨0, 32⟩⟩

theorem witness_ExchangeLengthBounds :
    EntriesSound activeMap.entries ∧ SettingsSound RackSettings.reset ∧ RackSettings.reset.reserve ≤ 65535
      ∧ (regionLength entry5.output ≤ 128 ∧ regionLength entry5.input ≤ 128)
      ∧ (rack.settings.rate = .mbit12 ∧ rack.settings.period = 250 ∧ rack.settings.reserve = 120
        ∧ 119 < regionLength tooLong.output + regionLength tooLong.input) := by
  refine ⟨entriesSound_of_active, by unfold SettingsSound; decide, by decide⟩

/-- Slot 5 stopped and slot 12 with an ADD, which the build then places; and slot 12 parked alone, which a recheck leaves parked. -/
def dueChange : State :=
  { rack with
    slots := amend (amend rack.slots 11 fun _ => slotAt .mapWait 1 (some 6)) 4 fun _ => slotAt .present 3 none
    maps := { rack.maps with changes := [.drop 4, .add 11] } }
def dueRecheck : State :=
  { rack with
    slots := amend rack.slots 11 fun _ => { slotAt .mapWait 1 (some 6) with parkReason := some .cycle }
    maps := { rack.maps with waitList := [11], recheck := true } }

theorem witness_BuildOffersMap :
    buildDue rack.maps = false
      ∧ (buildDue dueChange.maps = true ∧ MapSlotsSound dueChange ∧ dropsOf dueChange = [4])
      ∧ (buildDue dueRecheck.maps = true ∧ MapSlotsSound dueRecheck ∧ dropsOf dueRecheck = [] ∧ triedSlots dueRecheck = [11]) := by
  refine ⟨by decide, ⟨by decide, fun k => ?_, by decide⟩, by decide, fun k => ?_, by decide, by decide⟩
  all_goals refine ⟨fun h => ?_, fun h => ?_, by revert k; decide, by revert k; decide, by revert k; decide⟩
  all_goals fin_cases k <;> first | exact absurd h (by decide) | skip
  all_goals exact ⟨_, rfl, by decide, fun m hm => by cases hm⟩

/-- Slot 12 is placed at [24,40) and, where slot 5 had its inputs, at [4,12); in the recheck it parks for the length of the cycle. -/
theorem test_buildTries :
    (buildTries dueChange [entry2, entry9] (triedSlots dueChange)).2 = [(11, .placed ⟨11, 1, 6, some ⟨24, 16⟩, some ⟨4, 8⟩⟩)]
      ∧ (buildTries dueRecheck activeMap.entries (triedSlots dueRecheck)).2 = [(11, .parked .cycle)] := by decide

/-- `busy` with the backplane free; and with slot 14 withdrawn before the swap. -/
def swapping : State := { busy with service := ServiceChannel.reset }
def swappingOrphan : State := swapping.modSlot 13 fun r => { r with epoch := 2 }

theorem witness_SwapPutsSlotsInService :
    (swapping.cycle.holder = some ⟨.offered, 6, List.replicate 24 1⟩ ∧ backplaneIdle swapping = true
        ∧ swapping.maps.offered = some offeredMap)
      ∧ ((swapping.slot 13).state = .mapPending ∧ entryOf offeredMap.entries 13 = some entry14
        ∧ entry14.epoch = (swapping.slot 13).epoch)
      ∧ ((swappingOrphan.slot 13).state = .mapPending ∧ entry14.epoch ≠ (swappingOrphan.slot 13).epoch)
      ∧ (swapping.slot 1).state ≠ .mapPending := by decide +kernel

/-- The bytes after the generation, the count and the length of a Cycle Frame, with the two generations of `busy`. -/
theorem witness_CycleFrameRefused :
    ([0, 40, 0, 9, 0] : List Byte).length < 6
      ∧ ((1024 : Nat) < (4 : Byte).toNat * 256 + (1 : Byte).toNat)
      ∧ ((List.replicate 23 0 : List Byte).length ≠ 24)
      ∧ ((42 : Nat) ≠ busy.maps.active.generation ∧ busy.maps.offered.all (fun m => (42 : Nat) ≠ m.generation) = true)
      ∧ ((40 : Nat) = busy.maps.active.generation ∧ (23 : Nat) < outputExtent busy.maps.active.entries)
      ∧ (busy.maps.offered = some offeredMap ∧ (41 : Nat) = offeredMap.generation ∧ outputExtent offeredMap.entries ≤ 24
        ∧ busy.cycle.holder.isSome = true) := by decide +kernel

/-- `busy` with an empty holder, its backplane taken, and `rack` in SAFE, its backplane free. -/
def heldNone : State := { busy with cycle := { busy.cycle with holder := none } }

theorem witness_CycleFrameAccepted :
    (CycleSound heldNone ∧ (41 : Nat) ≠ heldNone.maps.active.generation ∧ heldNone.maps.offered = some offeredMap
        ∧ (41 : Nat) = offeredMap.generation ∧ outputExtent offeredMap.entries ≤ 24 ∧ heldNone.cycle.holder = none
        ∧ backplaneIdle heldNone = false)
      ∧ (CycleSound safeRack ∧ (40 : Nat) = safeRack.maps.active.generation ∧ safeRack.cycle.rackState = .safe
        ∧ outputExtent safeRack.maps.active.entries < 1024 ∧ safeRack.cycle.holder = none ∧ backplaneIdle safeRack = true) := by
  refine ⟨⟨⟨by decide, by decide, by decide, by decide, by decide, ?_, by decide⟩, by decide⟩,
    ⟨by decide, by decide, by decide, by decide, by decide, ?_, by decide⟩, by decide⟩ <;> rintro x ⟨⟩

def holding : State := { rack with cycle := { rack.cycle with holder := some ⟨.active, 6, List.replicate 24 1⟩ } }

theorem witness_ServiceAddressesRunningSlots :
    (holding.cycle.holder = some ⟨.active, 6, List.replicate 24 1⟩ ∧ backplaneIdle holding = true
        ∧ addressedSlots holding = [1, 4, 8])
      ∧ rack.cycle.holder = none ∧ backplaneIdle busy = false := by decide +kernel

def cutOff : State :=
  { gathering with cycle := { gathering.cycle with exchange := gathering.cycle.exchange.map fun x => { x with cut := true } } }

theorem witness_WindowCloseRecordsOutcome :
    gathering.cycle.exchange.any (fun x => x.cut == false && x.addressed[x.outcomes.length]? == some ⟨8, 3, 16⟩) = true
      ∧ cutOff.cycle.exchange.any (fun x => x.cut) = true
      ∧ heardAll.cycle.exchange.any (fun x => decide (x.addressed.length ≤ x.outcomes.length)) = true := by decide +kernel

theorem witness_AccountingOfOneSlot :
    ¬ ((busy.slot 13).state = .running ∧ (busy.slot 13).epoch = 1)
      ∧ ((rack.slot 4).state = .running ∧ (rack.slot 4).epoch = 3)
      ∧ ((rack.cyc 4).missCount + 1 < 5 ∧ 3 ≤ (rack.cyc 4).missCount + 1) := by decide

theorem witness_ExchangeEndFormsReturnFrame :
    cutOff.cycle.exchange.any (fun x => x.cut) = true
      ∧ gathering.cycle.exchange.any (fun x => !x.cut && decide (x.outcomes.length < x.addressed.length)) = true
      ∧ heardAll.cycle.exchange.any (fun x => !x.cut && decide (x.addressed.length ≤ x.outcomes.length)
          && x.kind == .normal 5) = true
      ∧ (after .safeExchangeStart safeRack).cycle.exchange.any (fun x => !x.cut && x.kind == .safe) = true := by
  decide +kernel

theorem buffersSound_of_gathering : BuffersSound gathering := by
  refine ⟨fun k e => ?_, ?_, fun f hf => by cases hf⟩
  · fin_cases k
    all_goals first
      | exact fun h => absurd h (by decide)
      | (intro h he; revert e; exact all_of_get (by decide))
  · rintro x ⟨⟩ -
    refine ⟨?_, ?_⟩
    · rintro a data diag h
      simp only [List.zip_cons_cons, List.zip_nil_right, List.mem_cons, Prod.mk.injEq, WindowOutcome.good.injEq, reduceCtorEq,
        and_false, List.not_mem_nil, or_false] at h
      obtain ⟨rfl, rfl, rfl⟩ := h
      rfl
    · intro a ha
      simp only [List.mem_cons, List.not_mem_nil, or_false] at ha
      rcases ha with rfl | rfl | rfl <;> exact fun _ _ => ⟨_, rfl, by decide, by decide⟩

/-- A header-only Return Frame, and a full one. -/
def headerOnly : ReturnFrame := refusalFrame rack .short 0x0506
def fullFrame : ReturnFrame := { headerOnly with status := List.replicate 16 ⟨.running, true, false, true⟩, image := [9] }

theorem witness_ReturnFrameContents : EntriesSound gathering.maps.active.entries ∧ BuffersSound gathering
    ∧ (headerOnly.status = [] ∧ headerOnly.image = []) ∧ fullFrame.status.length = 16 :=
  ⟨entriesSound_of_active, buffersSound_of_gathering, by decide, by decide⟩

/-- The header of section 11.1, written out: result SHORT, generation 40, none offered, the count, RUN and STEADY. -/
theorem test_returnFrame_wire :
    headerOnly.wire.take 12 = [129, 3, 0, 40, 0, 0, 5, 6, 1, 0, 0, 0] ∧ fullFrame.wire[12]? = some 44 := by decide +kernel

theorem mapSlotsSound_of_gathering : MapSlotsSound gathering := by
  intro k
  refine ⟨fun h => ?_, fun h => ?_, by revert k; decide, by revert k; decide, by revert k; decide⟩
  all_goals fin_cases k <;> first | exact absurd h (by decide) | skip
  all_goals exact ⟨_, rfl, by decide, fun m hm => by cases hm⟩

theorem witness_StepKeepsBuffersSound :
    MapSlotsSound { gathering with pending := [.responseWindowClose false []] }
      ∧ BuffersSound { gathering with pending := [.responseWindowClose false []] }
      ∧ ∃ t, step { gathering with pending := [.responseWindowClose false []] } = .next t :=
  ⟨mapSlotsSound_of_gathering, buffersSound_of_gathering, _, rfl⟩

theorem witness_SafeExchangesRun :
    (rack.cycle.watchdog.isSome = true ∧ rack.cycle.lastCount = some 5) ∧ safeRack.cycle.watchdog = none
      ∧ safeRack.cycle.safeTimer.isSome = true ∧ rack.cycle.safeTimer = none
      ∧ (safeRack.cycle.safeDue = true ∧ backplaneIdle safeRack = true) ∧ rack.cycle.safeDue = false
      ∧ backplaneIdle busy = false := by decide

/-- A Return line of four and of one. -/
def someReturn : ReturnFrame := refusalFrame rack .short 5
def lineOf (n : Nat) : State := busy.modMgmt fun m => { m with returnLine := List.replicate n someReturn }

theorem witness_UpstreamOrder :
    (rack.mgmt.transmitter = .idle ∧ rack.mgmt.returnLine = [] ∧ rack.mgmt.replyQueue = [])
      ∧ busy.mgmt.transmitter ≠ .idle ∧ (lineOf 1).mgmt.returnLine = someReturn :: []
      ∧ (busy.mgmt.returnLine = [] ∧ busy.mgmt.replyQueue = ⟨1, 34, .done, [0]⟩ :: [])
      ∧ ((rack.modMgmt fun m => { m with transmitter := .sendingReply [] }).mgmt.transmitter ≠ .idle)
      ∧ (lineOf 3).mgmt.returnLine.length < 4
      ∧ ((lineOf 4).mgmt.returnLine = someReturn :: List.replicate 3 someReturn
        ∧ (List.replicate 3 someReturn).length = 3) := by decide +kernel

/-- A frame that ends becomes the command that waits last; one that a new start delimiter breaks off is discarded (R169). -/
def noticeFetchSymbols : List LinkSymbol := (withCrc32 [2, 7, 1]).map .byte ++ [.endDelimiter]

def midFrame : State := [LinkSymbol.startDelimiter, .byte 2, .byte 7].foldl State.hear busyStep

theorem test_hear_frame : (([LinkSymbol.startDelimiter] ++ noticeFetchSymbols).foldl State.hear busyStep).pending
    = busyStep.pending ++ [.noticeFetch 7 []] := by decide +kernel
theorem test_hear_broken : (([LinkSymbol.startDelimiter] ++ noticeFetchSymbols).foldl State.hear midFrame).pending
    = busyStep.pending ++ [.badCrcFrame, .noticeFetch 7 []] := by decide +kernel

/-- A cold reset discards the frame being received and what is left of it; a restart lets it be received whole (R170). -/
theorem test_hear_after_resets : let rest := noticeFetchSymbols.drop 2
    (rest.foldl State.hear (after .coldReset midFrame)).pending = busyStep.pending
      ∧ (rest.foldl State.hear (after (.restart 7 []) midFrame)).pending = busyStep.pending ++ [.noticeFetch 7 []] := by
  decide +kernel

theorem witness_ReceiverReadsFrames :
    ((Instr.noticeFetch 7 []).wellFormed = true ∧ commandFrame (.noticeFetch 7 []) = some (withCrc32 [2, 7, 1]))
      ∧ ([0, 0, 0, 0] : List Byte).length < 5 ∧ (1280 < (List.replicate 1281 (0 : Byte)).length)
      ∧ (([0, 0, 0, 0] : List Byte).length = 4 ∧ ([0, 0, 0, 0] : List Byte) ≠ word32 (crc32 [2, 7, 1]))
      ∧ ((3 : Byte) ≠ 1 ∧ (3 : Byte) ≠ 2) ∧ ([7] : List Byte).length < 2
      ∧ (rack.mgmt.receiver = none ∧ (midFrame.mgmt.receiver = some [2, 7]))
      ∧ LinkSymbol.startDelimiter ∉ [LinkSymbol.byte 2, .endDelimiter]
      ∧ (nextOf (exec .coldReset midFrame)).isSome = true := by decide +kernel

/-- Eight places taken: one reply on the wire, one outstanding pass-through, six formed replies. -/
def full8 : State := busy.modMgmt fun m => { m with replyQueue := List.replicate 6 ⟨1, 34, .done, [0]⟩ }

theorem witness_FullQueueDropsRequest :
    requestOf (.restart 7 []) = some (7, 128, []) ∧ 8 ≤ placesTaken full8.mgmt ∧ placesTaken full8.mgmt = 8 := by decide

theorem witness_placeFree : placeFree busy ∧ placeFree rack := by unfold placeFree; decide

/-- One argument byte too many and one too few; an unknown code; the values next to each range. -/
theorem witness_BadArgumentsRefused :
    ((Instr.restart 7 [0]).wellFormed = true ∧ argumentBytes 128 [0] ≠ some [(0 : Byte)].length
        ∧ argumentBytes 16 [1] ≠ some [(1 : Byte)].length ∧ (Instr.unknownRequest 7 2 []).wellFormed = true
        ∧ argumentBytes 2 [] ≠ some 0 ∧ argumentBytes 64 [0, 0, 2, 1] ≠ some 4)
      ∧ 16 < (17 : Byte).toNat ∧ 2 < (3 : Byte).toNat ∧ 31 < (32 : Byte).toNat ∧ 1 < (2 : Byte).toNat ∧ 23 < (24 : Byte).toNat
      ∧ 5 < (6 : Byte).toNat ∧ 3 < (4 : Byte).toNat ∧ 240 < (241 : Byte).toNat
      ∧ 16384 < nat16 0x3F 0xFF + (2 : Byte).toNat ∧ ((0 : Byte) = 0 ∧ 3 < (4 : Byte).toNat) := by decide

def presentOpen : State := rack.modSlot 15 fun _ => slotAt .present 255 none
def presentManual : State := rack.modSlot 0 fun _ => { slotAt .present 255 none with mode := .manual }

theorem witness_SlotModeAndStart :
    (presentOpen.slot 15).mode = .auto
      ∧ ((presentOpen.slot 15).mode ≠ .blocked)
      ∧ ((presentManual.slot 0).mode ≠ .auto ∧ (presentManual.slot 0).state = .present
        ∧ presentManual.settings.admission = .opened)
      ∧ ((presentOpen.slot 15).state = .present ∧ (presentOpen.slot 15).mode ≠ .blocked)
      ∧ (rack.slot 1).state ≠ .present := by decide

theorem witness_SlotStopWithdraws :
    (∀ k ∈ ([0, 1, 2, 3, 5, 7, 11, 13] : List Slot), (busy.slot k).state ≠ .empty ∧ (busy.slot k).state ≠ .settling
        ∧ (busy.slot k).state ≠ .present ∧ (busy.slot k).state ≠ .faulted ∧ (busy.slot k).state ≠ .quarantined)
      ∧ (busy.slot 15).state = .empty := by decide

def faultedShut : State := busy.modSlot 9 fun r => { r with mode := .manual }

theorem witness_SlotClearLeavesFault :
    ((faultedShut.slot 9).state = .faulted ∧ ¬ ((faultedShut.slot 9).mode = .auto ∧ faultedShut.settings.admission = .opened))
      ∧ ((busy.slot 9).state = .faulted ∧ (busy.slot 9).mode = .auto ∧ busy.settings.admission = .opened)
      ∧ ((leavingQuarantine.slot 0).state = .quarantined ∧ (leavingQuarantine.slot 0).cardPresent = true)
      ∧ ((busy.slot 10).state = .quarantined ∧ (busy.slot 10).cardPresent = false ∧ (busy.pres 10).phase = .inserting)
      ∧ ((emptyQuarantine.slot 0).state = .quarantined ∧ (emptyQuarantine.slot 0).cardPresent = false
        ∧ (emptyQuarantine.pres 0).phase ≠ .inserting)
      ∧ ((busy.slot 15).state ≠ .faulted ∧ (busy.slot 15).state ≠ .quarantined) := by decide

theorem witness_ReadsAndFetchReply :
    placeFree busy ∧ (16383 : Nat) + 1 ≤ 16384 ∧ (16144 : Nat) + 240 ≤ 16384 ∧ busy.maps.offered = some offeredMap
      ∧ rack.maps.offered = none :=
  ⟨witness_placeFree.1, by decide⟩

/-- Operands of PROFILE LOAD at the ends of their ranges, beyond them, and against a locked and an in-use profile. -/
def edgeRecord : ParameterRecord := ⟨15360, 1024, 255⟩
def lockedThree : State := rack.setProfile 31 { profileOfLengths 128 128 4 [edgeRecord] with locked := true }

theorem witness_ProfileLoadReplaces :
    placeFree lockedThree
      ∧ (edgeRecord.offset < 65536 ∧ edgeRecord.length < 65536 ∧ 1 ≤ edgeRecord.length ∧ edgeRecord.length ≤ 1024
        ∧ edgeRecord.offset ≤ 16383 ∧ edgeRecord.offset + edgeRecord.length ≤ 16384)
      ∧ ¬ ((129 : Nat) ≤ 128) ∧ ¬ ((3 : Nat) = 1 ∨ (3 : Nat) = 2 ∨ (3 : Nat) = 4) ∧ (16256 : Nat) + 128 ≤ 16384
      ∧ (lockedThree.profile 31).locked = true
      ∧ ((lockedThree.profile 1).locked = false ∧ inUse lockedThree 1 = true)
      ∧ ((lockedThree.profile 0).locked = false ∧ inUse lockedThree 0 = false) := by
  refine ⟨?_, by decide⟩
  unfold placeFree
  decide

theorem witness_ProfileDropAndPurge :
    placeFree lockedThree ∧ (lockedThree.profile 31).locked = true ∧ inUse lockedThree 31 = false
      ∧ ((lockedThree.profile 1).locked = false ∧ inUse lockedThree 1 = true)
      ∧ (lockedThree.profile 6).locked = false ∧ inUse lockedThree 6 = false ∧ (lockedThree.profile 6).valid = true :=
  ⟨witness_ProfileLoadReplaces.1, by decide⟩

theorem witness_StoreWriteWritesRange :
    (placeFree lockedThree ∧ ¬ (1 ≤ (List.replicate 0 (1 : Byte)).length) ∧ ¬ ((16384 : Nat) ≤ 16383)
        ∧ ¬ ((241 : Nat) ≤ 240))
      ∧ ((16383 : Nat) + 1 ≤ 16384 ∧ touchesLocked lockedThree ⟨16383, 1⟩ = true)
      ∧ (touchesLocked busy ⟨169, 240⟩ = false ∧ touchesInUse busy ⟨169, 240⟩ = true)
      ∧ (touchesLocked busy ⟨16144, 240⟩ = false ∧ touchesInUse busy ⟨16144, 240⟩ = false
        ∧ busy.library.store.wf = true) :=
  ⟨⟨witness_ProfileLoadReplaces.1, by decide⟩, by decide +kernel⟩

/-- A timing that is out of range, one that does not fit, a rate change during a transaction, and legal ones with the
budget and admission as they are, raised and opened. -/
def closedRack : State := rack.modMgmt fun m => { m with settings := { m.settings with admission := .closed } }

theorem witness_RackSetPutsSettings :
    placeFree closedRack
      ∧ ¬ (250 ≤ ({ rack.settings with period := 249 } : RackSettings).period)
      ∧ (¬ (rack.settings.rate.minReserve ≤ ({ rack.settings with reserve := 119 } : RackSettings).reserve)
        ∧ fits { rack.settings with reserve := 145 } rack.maps.active.entries = false)
      ∧ (({ busy.settings with rate := .mbit25 } : RackSettings).rate ≠ busy.settings.rate
        ∧ busy.service.inFlight.isSome = true)
      ∧ (Rate.mbit12.minReserve ≤ rack.settings.reserve ∧ fits rack.settings rack.maps.active.entries = true
        ∧ rack.maps.offered = none ∧ rack.settings.budget ≤ rack.settings.budget)
      ∧ rack.settings.budget < ({ rack.settings with budget := 65535 } : RackSettings).budget
      ∧ (closedRack.settings.admission = .closed ∧ rack.settings.admission = .opened) := by
  refine ⟨?_, by decide⟩
  unfold placeFree
  decide

/-- Four pass-throughs outstanding, and the one of `busy`. -/
def four : State := busy.modMgmt fun m => { m with outstanding := List.replicate 4 ⟨77, 1, 3, false⟩ }

theorem witness_CardAccessOutstanding :
    placeFree four ∧ ((four.slot 1).state = .running ∧ 4 ≤ four.mgmt.outstanding.length)
      ∧ ((busy.slot 1).state = .running ∧ busy.mgmt.outstanding.length < 4) ∧ (busy.slot 2).state ≠ .running
      ∧ (List.replicate 240 (0 : Byte)).length ≤ 240 ∧ 1 ≤ [(0 : Byte)].length := by
  refine ⟨?_, by decide +kernel⟩
  unfold placeFree
  decide

theorem witness_RuleWriteAndDefault : placeFree rack := witness_placeFree.2

theorem witness_RestartSetsEveryBlock : placeFree busy := witness_placeFree.1
end Sys2Proof.Tests
end

section
/-!
PROOF. Card Identification, the evaluation of an identity record (R47 to R50): what one rule compares, how the rules
fall into groups, and which group decides.
-/
namespace Sys2Proof.Machine

/-! ## One rule against a card (R47) -/

/-- The quantity of R47's table as a number, the firmware revision as 256 × major + minor. -/
def fieldNumber (k : Slot) (c : IdentityRecord) : RuleField → Nat
  | .vendor => c.vendor.toNat
  | .type => c.type.toNat
  | .hwRev => c.hardware.toNat
  | .fwRev => 256 * (c.firmware.extractLsb' 8 8).toNat + (c.firmware.extractLsb' 0 8).toNat
  | .serial => c.serial.toNat
  | .slot => k.val + 1

/-- What each operator of R47 asks of the masked quantity and the masked value. -/
def operatorHolds (op : RuleOperator) (mq mv : Nat) : Prop :=
  match op with
  | .equal => mq = mv
  | .notEqual => mq ≠ mv
  | .atLeast => mq ≥ mv
  | .atMost => mq ≤ mv

theorem half_toNat_eq_bytes (w : Half) :
    w.toNat = 256 * (w.extractLsb' 8 8).toNat + (w.extractLsb' 0 8).toNat := by
  have hw : w.toNat < 2 ^ 16 := w.isLt
  simp only [BitVec.extractLsb'_toNat, Nat.shiftRight_eq_div_pow]
  omega

theorem ruleQuantity_toNat (k : Slot) (c : IdentityRecord) (f : RuleField) :
    (ruleQuantity k c f).toNat = fieldNumber k c f := by
  have toNat_half (w : Half) : (w.zeroExtend 32).toNat = w.toNat := BitVec.toNat_setWidth_of_le (by decide)
  cases f with
  | vendor => exact toNat_half c.vendor
  | type => exact toNat_half c.type
  | hwRev => exact BitVec.toNat_setWidth_of_le (by decide)
  | fwRev => exact (toNat_half c.firmware).trans (half_toNat_eq_bytes c.firmware)
  | serial => rfl
  | slot =>
    have hlt : k.val + 1 < 2 ^ 32 := by omega
    simpa [ruleQuantity, fieldNumber, slotNumber] using hlt

theorem ruleMatches_iff (k : Slot) (c : IdentityRecord) (r : Rule) :
    ruleMatches k c r = true ↔
      operatorHolds r.operator (fieldNumber k c r.field &&& r.mask.toNat) (r.value.toNat &&& r.mask.toNat) := by
  rw [← ruleQuantity_toNat]
  unfold ruleMatches
  cases r.operator <;> simp [operatorHolds]

/-- A rule's outcome depends only on its operator, the masked quantity and the masked value. -/
theorem ruleMatches_congr {k k' : Slot} {c c' : IdentityRecord} {r r' : Rule} (hop : r'.operator = r.operator)
    (hq : ruleQuantity k' c' r'.field &&& r'.mask = ruleQuantity k c r.field &&& r.mask)
    (hv : r'.value &&& r'.mask = r.value &&& r.mask) : ruleMatches k' c' r' = ruleMatches k c r := by
  simp only [ruleMatches, hop, hq, hv]

theorem ruleMatches_of_mask_zero (k : Slot) (c : IdentityRecord) {r : Rule} (h : r.mask = 0) :
    ruleMatches k c r = (r.operator != .notEqual) := by
  rw [Bool.eq_iff_iff, ruleMatches_iff, h]
  cases r.operator <;> simp [operatorHolds]

theorem extractLsb'_high_eq_of_toNat_div_eq {w w' : Half} (h : w'.toNat / 256 = w.toNat / 256) :
    w'.extractLsb' 8 8 = w.extractLsb' 8 8 := by
  apply BitVec.eq_of_toNat_eq
  simp only [BitVec.extractLsb'_toNat, Nat.shiftRight_eq_div_pow]
  exact congrArg (· % 2 ^ 8) h

/-- The mask 65280 keeps the high byte of a 16-bit quantity and nothing else. -/
theorem zeroExtend_and_highByte (w : Half) :
    w.zeroExtend 32 &&& (65280 : BitVec 32) = (w.extractLsb' 8 8).zeroExtend 32 <<< 8 := by
  have mask_bit : ∀ i < 32, (65280 : BitVec 32).getLsbD i = decide (8 ≤ i ∧ i < 16) := by decide
  apply BitVec.eq_of_getLsbD_eq
  intro i hi
  rw [BitVec.getLsbD_and, mask_bit i hi]
  by_cases hlow : i < 8
  · simp [hlow]
  · have hback : 8 + (i - 8) = i := by omega
    have hbyte : (8 ≤ i ∧ i < 16) ↔ i - 8 < 8 := by omega
    simp [-Bool.decide_and, hi, hlow, hback, hbyte, Bool.and_comm]

/-- Two cards whose tested 16-bit quantities share the high byte are alike to a rule with mask 65280. -/
theorem ruleMatches_highByte {k : Slot} {c c' : IdentityRecord} {r : Rule} {w w' : Half} (hmask : r.mask = 65280)
    (hq : ruleQuantity k c r.field = w.zeroExtend 32) (hq' : ruleQuantity k c' r.field = w'.zeroExtend 32)
    (hhigh : w'.extractLsb' 8 8 = w.extractLsb' 8 8) : ruleMatches k c' r = ruleMatches k c r := by
  refine ruleMatches_congr rfl ?_ rfl
  rw [hq, hq', hmask, zeroExtend_and_highByte, zeroExtend_and_highByte, hhigh]

theorem goodRead_vendor_range {o : SegmentOutcome} {c : IdentityRecord} (h : goodRead o = some c) :
    1 ≤ c.vendor.toNat ∧ c.vendor.toNat ≤ 65534 := by
  unfold goodRead at h
  split at h
  · obtain ⟨-, hvendor⟩ := Option.filter_eq_some_iff.mp h
    obtain ⟨hzero, hmax⟩ : c.vendor ≠ 0 ∧ c.vendor ≠ 0xFFFF := by simpa using hvendor
    have hlt := c.vendor.isLt
    bv_omega
  · cases h

/-- Settles O26: the comparison is `ruleMatches_iff`, and the remarks of R47 follow as a rule sees only the masked
quantity and the masked value. -/
theorem ruleComparison : Obligations.RuleComparison := by
  intro k c r
  refine ⟨ruleMatches_iff k c r, fun o => goodRead_vendor_range, ?_, ruleMatches_of_mask_zero k c, ?_, ?_⟩
  · intro v hv
    exact ruleMatches_congr rfl rfl hv
  · intro hmask hfield c' hhigh
    exact ruleMatches_highByte hmask (by rw [hfield]; rfl) (by rw [hfield]; rfl) hhigh
  · intro hmask hfield c' hdiv
    exact ruleMatches_highByte hmask (by rw [hfield]; rfl) (by rw [hfield]; rfl)
      (extractLsb'_high_eq_of_toNat_div_eq hdiv)

/-! ## The rules in their groups (R48) -/

/-- What a rule does to the groups of the rules after it: it ends a group of its own, or it joins the first of them. -/
theorem ruleGroups_cons_cases (r : Rule) (rest : List Rule) :
    ((r.chain = false ∨ rest = []) ∧ ruleGroups (r :: rest) = [r] :: ruleGroups rest)
      ∨ (r.chain = true ∧ ∃ g gs, ruleGroups rest = g :: gs ∧ ruleGroups (r :: rest) = (r :: g) :: gs) := by
  cases hchain : r.chain with
  | false => simp [ruleGroups, hchain]
  | true =>
    cases rest with
    | nil => simp [ruleGroups]
    | cons s rest =>
      right
      obtain ⟨g, gs, hgroups⟩ : ∃ g gs, ruleGroups (s :: rest) = g :: gs := by
        rw [ruleGroups]
        split <;> simp
      exact ⟨rfl, g, gs, hgroups, by rw [ruleGroups, hchain, hgroups]⟩

theorem flatten_ruleGroups (rules : List Rule) : (ruleGroups rules).flatten = rules := by
  induction rules with
  | nil => rfl
  | cons r rest ih =>
    obtain ⟨-, heq⟩ | ⟨-, g, gs, hrest, heq⟩ := ruleGroups_cons_cases r rest
    · simp [heq, ih]
    · rw [heq, ← ih, hrest]
      rfl

theorem ne_nil_of_mem_ruleGroups {rules g : List Rule} (hg : g ∈ ruleGroups rules) : g ≠ [] := by
  induction rules generalizing g with
  | nil => cases hg
  | cons r rest ih =>
    obtain ⟨-, heq⟩ | ⟨-, g', gs, hrest, heq⟩ := ruleGroups_cons_cases r rest <;> rw [heq] at hg
    · obtain rfl | hg := List.mem_cons.mp hg
      · simp
      · exact ih hg
    · obtain rfl | hg := List.mem_cons.mp hg
      · simp
      · exact ih (hrest ▸ List.mem_cons_of_mem g' hg)

theorem chain_of_mem_dropLast_ruleGroup {rules g : List Rule} (hg : g ∈ ruleGroups rules) :
    ∀ r ∈ g.dropLast, r.chain = true := by
  induction rules generalizing g with
  | nil => cases hg
  | cons s rest ih =>
    obtain ⟨-, heq⟩ | ⟨hchain, g', gs, hrest, heq⟩ := ruleGroups_cons_cases s rest <;> rw [heq] at hg
    · obtain rfl | hg := List.mem_cons.mp hg
      · simp
      · exact ih hg
    · obtain rfl | hg := List.mem_cons.mp hg
      · have hg' : g' ∈ ruleGroups rest := hrest ▸ List.mem_cons_self
        rw [List.dropLast_cons_of_ne_nil (ne_nil_of_mem_ruleGroups hg')]
        exact List.forall_mem_cons.mpr ⟨hchain, ih hg'⟩
      · exact ih (hrest ▸ List.mem_cons_of_mem g' hg)

/-- Every group but the final one ends at a rule with chain no. -/
theorem chain_getLast_of_mem_dropLast_ruleGroups {rules g : List Rule} {last : Rule}
    (hg : g ∈ (ruleGroups rules).dropLast) (hlast : g.getLast? = some last) : last.chain = false := by
  induction rules generalizing g with
  | nil => cases hg
  | cons s rest ih =>
    obtain ⟨hend, heq⟩ | ⟨-, g', gs, hrest, heq⟩ := ruleGroups_cons_cases s rest <;> rw [heq] at hg
    · cases hgroups : ruleGroups rest with
      | nil => simp [hgroups] at hg
      | cons g' gs =>
        have hne : rest ≠ [] := by rintro rfl; cases hgroups
        rw [hgroups, List.dropLast_cons_of_ne_nil (List.cons_ne_nil g' gs), ← hgroups] at hg
        obtain rfl | hg := List.mem_cons.mp hg
        · obtain rfl : s = last := by simpa using hlast
          exact hend.resolve_right hne
        · exact ih hg hlast
    · cases gs with
      | nil => simp at hg
      | cons g'' gs =>
        rw [List.dropLast_cons_of_ne_nil (List.cons_ne_nil g'' gs)] at hg
        rw [hrest, List.dropLast_cons_of_ne_nil (List.cons_ne_nil g'' gs)] at ih
        obtain rfl | hg := List.mem_cons.mp hg
        · have hne : g' ≠ [] := ne_nil_of_mem_ruleGroups (hrest ▸ List.mem_cons_self)
          obtain ⟨x, xs, rfl⟩ := List.exists_cons_of_ne_nil hne
          exact ih List.mem_cons_self (by simpa using hlast)
        · exact ih (List.mem_cons_of_mem g' hg) hlast

/-- With a rule after it, a rule lengthens the first group by one when its chain flag is yes and else begins one. -/
theorem map_length_ruleGroups_cons_cons (r s : Rule) (rest : List Rule) :
    (ruleGroups (r :: s :: rest)).map List.length =
      if r.chain then ((ruleGroups (s :: rest)).map List.length).modifyHead (· + 1)
      else 1 :: (ruleGroups (s :: rest)).map List.length := by
  obtain ⟨hend, heq⟩ | ⟨hchain, g, gs, hrest, heq⟩ := ruleGroups_cons_cases r (s :: rest)
  · have hchain : r.chain = false := by simpa using hend
    simp [heq, hchain]
  · simp [heq, hchain, hrest]

/-- The group boundaries depend on the chain flags of the rules before the last one only. -/
theorem map_length_ruleGroups_congr {rules rules' : List Rule} (hlen : rules'.length = rules.length)
    (hchain : rules'.dropLast.map (·.chain) = rules.dropLast.map (·.chain)) :
    (ruleGroups rules').map List.length = (ruleGroups rules).map List.length := by
  induction rules generalizing rules' with
  | nil => rw [List.length_eq_zero_iff.mp hlen]
  | cons r rest ih =>
    obtain ⟨r', rest', rfl⟩ := List.exists_cons_of_length_eq_add_one hlen
    have hlen' : rest'.length = rest.length := by simpa using hlen
    cases rest with
    | nil =>
      rw [List.length_eq_zero_iff.mp hlen']
      simp [ruleGroups]
    | cons s rest =>
      obtain ⟨s', rest', rfl⟩ := List.exists_cons_of_length_eq_add_one hlen'
      obtain ⟨hhead, htail⟩ := List.cons.inj hchain
      have hhead : r'.chain = r.chain := hhead
      rw [map_length_ruleGroups_cons_cons, map_length_ruleGroups_cons_cons, hhead, ih hlen' htail]

theorem map_chain_dropLast_rules {m m' : Matcher}
    (h : ∀ i : RuleIndex, i ≠ 23 → (look m'.rules i).chain = (look m.rules i).chain) :
    m'.rules.toList.dropLast.map (·.chain) = m.rules.toList.dropLast.map (·.chain) := by
  refine List.ext_getElem (by simp) fun i hi _ => ?_
  have hi : i < 23 := by simpa using hi
  simpa [look] using h ⟨i, by omega⟩ (Fin.ne_of_lt hi)

/-- Settles O27. -/
theorem ruleGroupsPartition : Obligations.RuleGroupsPartition := by
  intro m
  refine ⟨flatten_ruleGroups _, ?_, ?_, ?_⟩
  · exact fun g hg => ⟨ne_nil_of_mem_ruleGroups hg, chain_of_mem_dropLast_ruleGroup hg⟩
  · exact fun g hg last hlast => chain_getLast_of_mem_dropLast_ruleGroups hg hlast
  · exact fun m' h => map_length_ruleGroups_congr (by simp) (map_chain_dropLast_rules h)

/-! ## The group that decides (R49, R50) -/

theorem ruleDecision_eq (r : Rule) :
    ruleDecision r = if r.action = .assign then .assign r.profile else .reject := by
  unfold ruleDecision
  cases r.action <;> rfl

/-- A group decides with its first enabled member when every enabled member matches (R49). -/
theorem groupDecision_eq_some_iff (k : Slot) (c : IdentityRecord) (g : List Rule) (d : Decision) :
    groupDecision k c g = some d ↔
      (∀ r ∈ g, r.enabled = true → ruleMatches k c r = true)
        ∧ ∃ first rest, g.filter (·.enabled) = first :: rest ∧ ruleDecision first = d := by
  have hmem : (∀ r ∈ g, r.enabled = true → ruleMatches k c r = true) ↔
      ∀ r ∈ g.filter (·.enabled), ruleMatches k c r = true := by
    simp [List.mem_filter]
  rw [hmem, groupDecision]
  cases g.filter (·.enabled) with
  | nil => simp
  | cons first rest => simp

theorem evaluateIdentity_of_first_decides {m : Matcher} {k : Slot} {c : IdentityRecord} {before after : List (List Rule)}
    {g : List Rule} {d : Decision} (hgroups : ruleGroups m.rules.toList = before ++ g :: after)
    (hbefore : ∀ b ∈ before, groupDecision k c b = none) (hg : groupDecision k c g = some d) :
    evaluateIdentity m k c = d := by
  have hnone : before.findSome? (groupDecision k c) = none := List.findSome?_eq_none_iff.mpr hbefore
  rw [evaluateIdentity, hgroups, List.findSome?_append, hnone, List.findSome?_cons_of_isSome (by simp [hg]), hg]
  rfl

theorem evaluateIdentity_of_none_decides {m : Matcher} {k : Slot} {c : IdentityRecord}
    (h : ∀ g ∈ ruleGroups m.rules.toList, groupDecision k c g = none) :
    evaluateIdentity m k c = m.defaultAction := by
  rw [evaluateIdentity, List.findSome?_eq_none_iff.mpr h]
  rfl

/-- Settles O28: the first enabled member is where the filter of the enabled members begins. -/
theorem groupDecidesWithFirstEnabled : Obligations.GroupDecidesWithFirstEnabled := by
  refine ⟨fun k c g d => ?_, fun m k c => ⟨?_, evaluateIdentity_of_none_decides⟩⟩
  · rw [groupDecision_eq_some_iff]
    refine and_congr_right fun _ => ⟨?_, ?_⟩
    · rintro ⟨first, rest, hfilter, hd⟩
      obtain ⟨before, after, hg, hbefore, hfirst, -⟩ := List.filter_eq_cons_iff.mp hfilter
      exact ⟨before, first, after, hg, by simpa using hbefore, hfirst, by rw [← hd, ruleDecision_eq]⟩
    · rintro ⟨before, first, after, hg, hbefore, hfirst, hd⟩
      refine ⟨first, after.filter (·.enabled), ?_, by rw [hd, ruleDecision_eq]⟩
      exact List.filter_eq_cons_iff.mpr ⟨before, after, hg, by simpa using hbefore, hfirst, rfl⟩
  · exact fun before g after d => evaluateIdentity_of_first_decides

end Sys2Proof.Machine
end

section
/-!
PROOF. What a command can do, said once: `Effect` lists the changes that the commands other than COLD_RESET make before
their reply or Return Frame is formed, each with the condition under which it is made. An invariant is then proved by
cases on `Effect` and on the frame that joins the upstream side.
-/
namespace Sys2Proof.Machine

/-! ## What a request can do -/

/-- The change that a block makes when it serves a request and answers it at once. -/
inductive Served (s : State) : State → Prop
  | unchanged : Served s s
  | noticesFetched (n : Nat) : Served s (s.modMgmt fun m => { m with notices := m.notices.drop n })
  | countersCleared : Served s (modCounters (fun _ => LinkCounters.reset) s)
  | modeSet (k : Slot) (m : Mode) : Served s (setMode k m s)
  | started (k : Slot) (h : (s.slot k).state = .present) (hm : (s.slot k).mode ≠ .blocked) :
      Served s (enterIdentifying k s)
  | stopped (k : Slot) (h : (s.slot k).state.stoppable = true) : Served s (stopSlot k s)
  | faultedCleared (k : Slot) (h : (s.slot k).state = .faulted) : Served s (clearFaulted k s)
  | quarantinedCleared (k : Slot) (h : (s.slot k).state = .quarantined) : Served s (clearQuarantined k s)
  | profileLoaded (args : List Byte) (i : ProfileIndex) (p : Profile) (h : profileLoadArgs args = some (i, p))
      (hl : (s.profile i).locked = false) (hu : inUse s i = false) : Served s (s.setProfile i p)
  | profileDropped (i : ProfileIndex) (hu : inUse s i = false) : Served s (s.setProfile i Profile.reset)
  | profilesPurged : Served s ((purgeable s).foldl (fun t i => t.setProfile i Profile.reset) s)
  | ruleWritten (i : RuleIndex) (r : Rule) :
      Served s { s with matcher := { s.matcher with rules := amend s.matcher.rules i fun _ => r } }
  | defaultSet (d : Decision) : Served s { s with matcher := { s.matcher with defaultAction := d } }
  | storeWritten (o : Nat) (data : List Byte) : Served s (s.setStore (s.library.store.writeRange o data))
  | settingsPut (args : List Byte) (r : RackSettings) (h : rackSetArgs args = some r)
      (hr : rackSetReason s r = none) : Served s (putSettings r s)
  | restarted : Served s (restartAll s)

/-- A request that its block answers at once. -/
def Answers (serve : State → State × Option Answer) (s : State) : Prop :=
  (serve s).2.isSome = true ∧ Served s (serve s).1

theorem Answers.mk {serve : State → State × Option Answer} {s t : State} {a : Answer} (h : serve s = (t, some a))
    (ht : Served s t) : Answers serve s := by
  rw [Answers, h]; exact ⟨rfl, ht⟩

theorem badArgument_answers (s : State) : Answers badArgument s := .mk rfl .unchanged

theorem serveNoticeFetch_answers (args : List Byte) (s : State) : Answers (serveNoticeFetch args) s := by
  unfold Answers serveNoticeFetch
  split
  · exact ⟨rfl, .noticesFetched _⟩
  · exact badArgument_answers s

theorem serveSlotMode_answers (args : List Byte) (s : State) : Answers (serveSlotMode args) s := by
  unfold Answers serveSlotMode
  split
  · exact ⟨rfl, .modeSet _ _⟩
  · exact badArgument_answers s

theorem serveSlotStart_answers (args : List Byte) (s : State) : Answers (serveSlotStart args) s := by
  unfold Answers serveSlotStart
  split
  · split
    · rename_i k _ h; exact ⟨rfl, .started k h.1 h.2⟩
    · exact ⟨rfl, .unchanged⟩
  · exact badArgument_answers s

theorem serveSlotStop_answers (args : List Byte) (s : State) : Answers (serveSlotStop args) s := by
  unfold Answers serveSlotStop
  split
  · split
    · rename_i k _ h; exact ⟨rfl, .stopped k h⟩
    · exact ⟨rfl, .unchanged⟩
  · exact badArgument_answers s

theorem serveSlotClear_answers (args : List Byte) (s : State) : Answers (serveSlotClear args) s := by
  unfold Answers serveSlotClear
  split
  · rename_i k _
    split
    · rename_i h; exact ⟨rfl, .faultedCleared k h⟩
    · split
      · rename_i h; exact ⟨rfl, .quarantinedCleared k h⟩
      · exact ⟨rfl, .unchanged⟩
  · exact badArgument_answers s

theorem serveSlotRead_answers (args : List Byte) (s : State) : Answers (serveSlotRead args) s := by
  unfold Answers serveSlotRead
  split <;> exact ⟨rfl, .unchanged⟩

theorem serveProfileLoad_answers (args : List Byte) (s : State) : Answers (serveProfileLoad args) s := by
  unfold Answers serveProfileLoad
  split
  · rename_i i p h
    split
    · exact ⟨rfl, .unchanged⟩
    · rename_i hl
      split
      · exact ⟨rfl, .unchanged⟩
      · rename_i hu; exact ⟨rfl, .profileLoaded args i p h (by simpa using hl) (by simpa using hu)⟩
  · exact badArgument_answers s

theorem serveProfileDrop_answers (args : List Byte) (s : State) : Answers (serveProfileDrop args) s := by
  unfold Answers serveProfileDrop
  split
  · rename_i i force h
    split
    · exact ⟨rfl, .unchanged⟩
    · split
      · exact ⟨rfl, .unchanged⟩
      · rename_i hu; exact ⟨rfl, .profileDropped i (by simpa using hu)⟩
  · exact badArgument_answers s

theorem serveProfilePurge_answers (args : List Byte) (s : State) : Answers (serveProfilePurge args) s := by
  unfold Answers serveProfilePurge
  split
  · exact ⟨rfl, .profilesPurged⟩
  · exact badArgument_answers s

theorem serveProfileRead_answers (args : List Byte) (s : State) : Answers (serveProfileRead args) s := by
  unfold Answers serveProfileRead
  split <;> exact ⟨rfl, .unchanged⟩

theorem serveRuleWrite_answers (args : List Byte) (s : State) : Answers (serveRuleWrite args) s := by
  unfold Answers serveRuleWrite
  split
  · exact ⟨rfl, .ruleWritten _ _⟩
  · exact badArgument_answers s

theorem serveRuleRead_answers (args : List Byte) (s : State) : Answers (serveRuleRead args) s := by
  unfold Answers serveRuleRead
  split <;> exact ⟨rfl, .unchanged⟩

theorem serveRuleDefault_answers (args : List Byte) (s : State) : Answers (serveRuleDefault args) s := by
  unfold Answers serveRuleDefault
  split
  · exact ⟨rfl, .defaultSet _⟩
  · exact badArgument_answers s

theorem serveStoreWrite_answers (args : List Byte) (s : State) : Answers (serveStoreWrite args) s := by
  unfold Answers serveStoreWrite
  split
  · split
    · exact ⟨rfl, .unchanged⟩
    · split
      · exact ⟨rfl, .unchanged⟩
      · exact ⟨rfl, .storeWritten _ _⟩
  · exact badArgument_answers s

theorem serveStoreRead_answers (args : List Byte) (s : State) : Answers (serveStoreRead args) s := by
  unfold Answers serveStoreRead
  split <;> exact ⟨rfl, .unchanged⟩

theorem serveRackSet_answers (args : List Byte) (s : State) : Answers (serveRackSet args) s := by
  unfold Answers serveRackSet
  split
  · rename_i r h
    split
    · exact ⟨rfl, .unchanged⟩
    · rename_i hr; exact ⟨rfl, .settingsPut args r h hr⟩
  · exact ⟨rfl, .unchanged⟩

theorem serveRackRead_answers (args : List Byte) (s : State) : Answers (serveRackRead args) s := by
  unfold Answers serveRackRead
  split
  · rename_i clear _
    cases clear
    · exact ⟨rfl, .unchanged⟩
    · exact ⟨rfl, .countersCleared⟩
  · exact badArgument_answers s

theorem serveMapRead_answers (args : List Byte) (s : State) : Answers (serveMapRead args) s := by
  unfold Answers serveMapRead
  split
  · exact ⟨rfl, .unchanged⟩
  · split <;> exact ⟨rfl, .unchanged⟩
  · exact badArgument_answers s

theorem serveRestart_answers (args : List Byte) (s : State) : Answers (serveRestart args) s := by
  cases h : noArgs args with
  | none => exact .mk (by simp only [serveRestart, h]; rfl) .unchanged
  | some =>
    exact .mk (a := done (be16 (restartAll s).maps.active.generation
      ++ [byteOf (rackStateCode (restartAll s).cycle.rackState)])) (by simp only [serveRestart, h]) .restarted

/-! ## What any command but COLD_RESET can do -/

/-- The state when a segment has ended and its transaction is no longer in flight. -/
theorem segmentOver_eq (s : State) :
    setInFlight none (s.modService fun c => { c with segment := none }) = segmentOver s := rfl

/-- The change that a command makes, up to the reply or the Return Frame formed at its end. -/
inductive Effect (s : State) : State → Prop
  | served {t : State} (h : Served s t) : Effect s t
  | counted (f : LinkCounters → LinkCounters) : Effect s (modCounters f s)
  | frameRefused (f : LinkCounters → LinkCounters) (r : ReturnFrame) : Effect s (modCounters f (postReturn r s))
  | sentOn (h : s.mgmt.transmitter ≠ .idle) : Effect s (s.modMgmt startUpstream)
  | lineAsserted (k : Slot) : Effect s (lineAsserted k s)
  | lineDeasserted (k : Slot) : Effect s (lineDeasserted k s)
  | inserted (k : Slot) (d : Nat) (e : Epoch) (h : (s.pres k).timer = .insertion d e) :
      Effect s (cardArrived k e (s.modPres k fun r => { r with phase := .seated, timer := .stopped }))
  | removed (k : Slot) (d : Nat) (h : (s.pres k).timer = .removal d) :
      Effect s (cardGone k (s.modPres k fun r => { r with phase := .absent, timer := .stopped, auxSupply := false }))
  | segmentStarted (x : Transaction) (q : List Transaction) (h : freeForSegment s = true)
      (hx : nextTransaction s.service = some (x, q)) :
      Effect s (s.modService fun c =>
        { c with queue := q, inFlight := some x
                 segment := some { live := true, timedOut := false, bitTime := s.settings.rate.bitTime
                                   telegram := segmentTelegram s.library.store x } })
  | segmentTimedOut :
      Effect s (s.modService fun c => { c with segment := c.segment.map fun g => { g with timedOut := true } })
  | segmentFreed (g : Segment) (hg : s.service.segment = some g) (h : g.live = false ∨ s.service.inFlight = none) :
      Effect s (s.modService fun c => { c with segment := none })
  | segmentKept (g : Segment) (x : Transaction) (h : segmentRuns s g x) (hk : x.kind ≠ .identRead) (p : Nat)
      (bytes : List Byte) (r : Bool) :
      Effect s (setInFlight (some { x with position := p, gathered := bytes, repeatUsed := r })
        (s.modService fun c => { c with segment := none }))
  | segmentReturned (g : Segment) (x : Transaction) (h : segmentRuns s g x) (hk : x.kind ≠ .identRead) :
      Effect s (queueTransaction { x with repeatUsed := false } (segmentOver s))
  | identCompleted (g : Segment) (x : Transaction) (h : segmentRuns s g x) (hk : x.kind = .identRead) (o : SegmentOutcome) :
      Effect s (identCompletion x o (segmentOver s))
  | completed (g : Segment) (x : Transaction) (h : segmentRuns s g x) (hk : x.kind ≠ .identRead) (c : Completion) :
      Effect s (completeTransaction x c (segmentOver s))
  | rampGood (k : Slot) (ht : (s.pow k).rampTimer.isSome = true) (h : rampEndTaken k s = true) :
      Effect s (rampGood k s)
  | rampBad (k : Slot) (ht : (s.pow k).rampTimer.isSome = true) (h : rampEndTaken k s = true) : Effect s (rampBad k s)
  | rampDiscarded (k : Slot) (ht : (s.pow k).rampTimer.isSome = true) (h : rampEndTaken k s = false) :
      Effect s (rampDiscarded k s)
  | powerGoodDeasserted (k : Slot) :
      Effect s (s.modPow k fun r => { r with powerGood := false, filter := r.filter || r.monitoring })
  | powerGoodAsserted (k : Slot) :
      Effect s (s.modPow k fun r => { r with powerGood := true, filter := r.filter && !r.monitoring })
  | powerLost (k : Slot) (h : (s.pow k).filter = true) (c : Claim) (hc : (s.pow k).claim = some c) :
      Effect s (reportFault k c.epoch .powerLost none (s.modPow k fun r => { r with filter := false }))
  | filterStopped (k : Slot) (h : (s.pow k).filter = true) (hc : (s.pow k).claim = none) :
      Effect s (s.modPow k fun r => { r with filter := false })
  | configTimedOut (k : Slot) (d : Download) (h : s.download k = some d) :
      Effect s (reportFault k d.epoch .configTimeout none (s.setDownload k none))
  | built (h : buildDue s.maps = true) : Effect s (runBuild s)
  | frameAccepted (body : List Byte) (f : HeldFrame) (g : Nat) (long : Bool)
      (h : checkFrame s (cycleFields body) = .accepted f g long) : Effect s (acceptFrame f g long s)
  | frameServed (f : HeldFrame) (h : s.cycle.holder = some f) (hb : backplaneIdle s = true) :
      Effect s (serveFrame f (s.modCycle fun c => { c with holder := none }))
  | windowClosed (x : Exchange) (a : Addressed) (inWindow : Bool) (response : List Byte)
      (h : s.cycle.exchange = some x) (ha : x.addressed[x.outcomes.length]? = some a) (hc : x.cut = false) :
      Effect s (s.modCycle fun c =>
        { c with exchange := some { x with
            outcomes := x.outcomes ++ [responseOutcome a.slot a.inputLength inWindow response] } })
  | exchangeCut (x : Exchange) (h : s.cycle.exchange = some x) (hc : x.cut = true) :
      Effect s (s.modCycle fun c => { c with exchange := none })
  | accounted (x : Exchange) (h : s.cycle.exchange = some x) (hc : x.cut = false)
      (hn : x.addressed.length ≤ x.outcomes.length) :
      Effect s ((x.addressed.zip x.outcomes).foldl (accountSlot (missLimit s))
        (s.modCycle fun c => { c with exchange := none }))
  | watchdogExpired (h : s.cycle.watchdog.isSome = true) :
      Effect s (postNotice (.rackSafe (s.cycle.lastCount.getD 0)) (s.modCycle fun c =>
        { c with rackState := .safe, watchdog := none, safeDue := true, safeTimer := some s.settings.period }))
  | safeTimerExpired (h : s.cycle.safeTimer.isSome = true) :
      Effect s (s.modCycle fun c => { c with safeDue := true, safeTimer := some s.settings.period })
  | safeStarted (h : s.cycle.safeDue = true) (hb : backplaneIdle s = true) :
      Effect s (startExchange .safe (addressedEntries s) ((addressedEntries s).flatMap (safeOutput s))
        (s.modCycle fun c => { c with safeDue := false }))
  | accessAccepted (k : Slot) (p : PassThrough) (x : Transaction) (h : (s.slot k).state = .running)
      (ho : s.mgmt.outstanding.length < 4) (hp : placesTaken s.mgmt < 8) (hx : x.origin = .passThrough)
      (hk : x.kind = .paramRead ∨ x.kind = .paramWrite) (hxp : passThroughOf x = p) :
      Effect s (queueTransaction x (s.modMgmt fun m => { m with outstanding := m.outstanding ++ [p] }))

/-- The frame that a command forms at its end: none, a reply with a place free at its beginning, or a Return Frame. -/
inductive Posted (s u : State) : State → Prop
  | none : Posted s u u
  | reply (r : ReplyFrame) (hs : Served s u) (h : placesTaken s.mgmt < 8) : Posted s u (postReply r u)
  | returned (r : ReturnFrame) : Posted s u (postReturn r u)

/-- A command has made a change and formed its frame. -/
def Done (s t : State) : Prop := ∃ u, Effect s u ∧ Posted s u t

theorem Effect.done {s t : State} (h : Effect s t) : Done s t := ⟨t, h, .none⟩

theorem done_refl (s : State) : Done s s := (Effect.served .unchanged).done

/-- A request that its block answers. -/
theorem takeRequest_done {serve : State → State × Option Answer} {s : State} (h : Answers serve s) (tag code : Byte) :
    Done s (takeRequest tag code serve s) := by
  obtain ⟨-, hd⟩ | ⟨hp, t, a, ht, hd⟩ | ⟨-, t, ht, -⟩ := takeRequest_cases tag code serve s
  · rw [hd]; exact (Effect.counted _).done
  · rw [hd]
    have hs : Served s t := by simpa [ht] using h.2
    exact ⟨t, .served hs, .reply _ hs hp⟩
  · have := h.1
    simp [ht] at this

/-- A card access that names an outstanding pass-through of its own (R106). -/
theorem acceptAccess_done (tag code : Byte) (k : Slot) (p : PassThrough) (x : Transaction)
    (serve : State → State × Option Answer) (s : State) (hserve : serve s = acceptAccess k p x s)
    (hx : x.origin = .passThrough) (hk : x.kind = .paramRead ∨ x.kind = .paramWrite) (hxp : passThroughOf x = p) :
    Done s (takeRequest tag code serve s) := by
  by_cases hrun : (s.slot k).state = .running
  · by_cases hfour : s.mgmt.outstanding.length < 4
    · have hserve' : serve s
          = (queueTransaction x (s.modMgmt fun m => { m with outstanding := m.outstanding ++ [p] }), none) := by
        rw [hserve, acceptAccess, if_neg (by simpa using hrun), if_neg (by simpa [Config.passThroughs] using hfour)]
      obtain ⟨-, hd⟩ | ⟨-, t, a, ht, -⟩ | ⟨hp, t, ht, hd⟩ := takeRequest_cases tag code serve s
      · rw [hd]; exact (Effect.counted _).done
      · simp [hserve'] at ht
      · rw [hd]
        obtain rfl : t = _ := (Prod.mk.inj (hserve'.symm.trans ht)).1.symm
        exact (Effect.accessAccepted k p x hrun hfour hp hx hk hxp).done
    · refine takeRequest_done ?_ tag code
      refine .mk (a := refuse .busy) ?_ .unchanged
      rw [hserve, acceptAccess, if_neg (by simpa using hrun), if_pos (by simpa [Config.passThroughs] using hfour)]
      rfl
  · refine takeRequest_done ?_ tag code
    refine .mk (a := refuse .wrongState) ?_ .unchanged
    rw [hserve, acceptAccess, if_pos hrun]
    rfl

/-- A segment of a PARAM kind that failed (R94). -/
theorem failSegment_effect {s : State} {g : Segment} {x : Transaction} (h : segmentRuns s g x)
    (hk : x.kind ≠ .identRead) : Effect s (failSegment x (s.modService fun c => { c with segment := none })) := by
  unfold failSegment
  split
  · rw [segmentOver_eq]; exact .completed g x h hk _
  · exact .segmentKept g x h hk _ _ _

/-- What the outcome of a segment does (R94). -/
theorem actOnOutcome_effect {s : State} {g : Segment} {x : Transaction} (h : segmentRuns s g x) (o : SegmentOutcome) :
    Effect s (actOnOutcome x o (s.modService fun c => { c with segment := none })) := by
  by_cases hk : x.kind = .identRead
  · have hident : actOnOutcome x o (s.modService fun c => { c with segment := none })
        = identCompletion x o (segmentOver s) := by
      simp only [actOnOutcome, hk]; rfl
    rw [hident]
    exact .identCompleted g x h hk o
  · have hparam : actOnOutcome x o (s.modService fun c => { c with segment := none }) =
        (match o with
        | .answered (.accept data) => acceptSegment x data (s.modService fun c => { c with segment := none })
        | .answered (.refuse code) => completeTransaction x (.refused code) (segmentOver s)
        | .answered .busy => queueTransaction { x with repeatUsed := false } (segmentOver s)
        | .noAnswer => failSegment x (s.modService fun c => { c with segment := none })
        | .crcError => failSegment x (s.modService fun c => { c with segment := none })) := by
      unfold actOnOutcome
      split
      · rename_i e; exact absurd e hk
      all_goals rfl
    rw [hparam]
    split
    · unfold acceptSegment
      split
      · rw [segmentOver_eq]; exact .completed g x h hk _
      · exact .segmentKept g x h hk _ _ _
    · exact .completed g x h hk _
    · exact .segmentReturned g x h hk
    · exact failSegment_effect h hk
    · exact failSegment_effect h hk

/-- Every command but COLD_RESET answers a next state, which is one of the changes of `Effect` with its frame formed. -/
theorem exec_done (c : Instr) (s : State) (hc : c ≠ .coldReset) : ∃ t, exec c s = .next t ∧ Done s t := by
  cases c with
  | coldReset => exact absurd rfl hc
  | presenceLineAsserted k => exact ⟨_, rfl, (Effect.lineAsserted k).done⟩
  | presenceLineDeasserted k => exact ⟨_, rfl, (Effect.lineDeasserted k).done⟩
  | insertionDebounceExpiry k =>
    simp only [exec, execInsertionDebounceExpiry]
    split
    · rename_i h; exact ⟨_, rfl, (Effect.inserted k _ _ h).done⟩
    all_goals exact ⟨_, rfl, done_refl s⟩
  | removalDebounceExpiry k =>
    simp only [exec, execRemovalDebounceExpiry]
    split
    · rename_i h; exact ⟨_, rfl, (Effect.removed k _ h).done⟩
    all_goals exact ⟨_, rfl, done_refl s⟩
  | segmentStart =>
    simp only [exec, execSegmentStart]
    split
    · rename_i hf
      split
      · rename_i x q hx; exact ⟨_, rfl, (Effect.segmentStarted x q hf hx).done⟩
      · exact ⟨_, rfl, done_refl s⟩
    · exact ⟨_, rfl, done_refl s⟩
  | segmentResponseTimeout => exact ⟨_, rfl, Effect.segmentTimedOut.done⟩
  | segmentEnd answer =>
    simp only [exec, execSegmentEnd]
    split
    · rename_i g hg
      split
      · rename_i x hl hx; exact ⟨_, rfl, (actOnOutcome_effect ⟨hg, hl, hx⟩ _).done⟩
      · rename_i hx; exact ⟨_, rfl, (Effect.segmentFreed g hg (.inr hx)).done⟩
      · rename_i hl; exact ⟨_, rfl, (Effect.segmentFreed g hg (.inl hl)).done⟩
    · exact ⟨_, rfl, done_refl s⟩
  | rampEnd k =>
    obtain ⟨-, h⟩ | ⟨ht, hr, -, h⟩ | ⟨ht, hr, -, h⟩ | ⟨ht, hr, h⟩ := execRampEnd_cases s k
    · exact ⟨_, h, done_refl s⟩
    · exact ⟨_, h, (Effect.rampGood k ht hr).done⟩
    · exact ⟨_, h, (Effect.rampBad k ht hr).done⟩
    · exact ⟨_, h, (Effect.rampDiscarded k ht hr).done⟩
  | powerGoodDeasserted k => exact ⟨_, rfl, (Effect.powerGoodDeasserted k).done⟩
  | powerGoodAsserted k => exact ⟨_, rfl, (Effect.powerGoodAsserted k).done⟩
  | powerGoodFilterExpiry k =>
    simp only [exec, execPowerGoodFilterExpiry]
    split
    · rename_i hf
      split
      · rename_i c hc'; exact ⟨_, rfl, (Effect.powerLost k hf c hc').done⟩
      · rename_i hc'; exact ⟨_, rfl, (Effect.filterStopped k hf hc').done⟩
    · exact ⟨_, rfl, done_refl s⟩
  | configurationTimeout k =>
    simp only [exec, execConfigurationTimeout]
    split
    · rename_i d h; exact ⟨_, rfl, (Effect.configTimedOut k d h).done⟩
    · exact ⟨_, rfl, done_refl s⟩
  | build =>
    simp only [exec, execBuild]
    split
    · rename_i h; exact ⟨_, rfl, (Effect.built h).done⟩
    · exact ⟨_, rfl, done_refl s⟩
  | cycleFrame body =>
    simp only [exec, execCycleFrame]
    split
    · exact ⟨_, rfl, (Effect.frameRefused _ _).done⟩
    · rename_i f g long h; exact ⟨_, rfl, (Effect.frameAccepted body f g long h).done⟩
  | frameServiceStart =>
    simp only [exec, execFrameServiceStart]
    split
    · rename_i f h
      split
      · rename_i hb; exact ⟨_, rfl, (Effect.frameServed f h hb).done⟩
      · exact ⟨_, rfl, done_refl s⟩
    · exact ⟨_, rfl, done_refl s⟩
  | responseWindowClose inWindow response =>
    simp only [exec, execResponseWindowClose]
    split
    · rename_i x h
      split
      · rename_i a ha hcut; exact ⟨_, rfl, (Effect.windowClosed x a inWindow response h ha hcut).done⟩
      all_goals exact ⟨_, rfl, done_refl s⟩
    · exact ⟨_, rfl, done_refl s⟩
  | exchangeEnd =>
    simp only [exec, execExchangeEnd]
    split
    · rename_i x h
      split
      · rename_i hcut; exact ⟨_, rfl, (Effect.exchangeCut x h hcut).done⟩
      · rename_i hcut
        split
        · rename_i hn
          have he := Effect.accounted x h (by simpa using hcut) hn
          refine ⟨_, rfl, ?_⟩
          unfold finishExchange
          dsimp only
          split
          · exact ⟨_, he, .returned _⟩
          · exact he.done
        · exact ⟨_, rfl, done_refl s⟩
    · exact ⟨_, rfl, done_refl s⟩
  | cycleWatchdogExpiry =>
    simp only [exec, execCycleWatchdogExpiry]
    split
    · rename_i h; exact ⟨_, rfl, (Effect.watchdogExpired h).done⟩
    · exact ⟨_, rfl, done_refl s⟩
  | safeExchangeTimerExpiry =>
    simp only [exec, execSafeExchangeTimerExpiry]
    split
    · rename_i h; exact ⟨_, rfl, (Effect.safeTimerExpired h).done⟩
    · exact ⟨_, rfl, done_refl s⟩
  | safeExchangeStart =>
    simp only [exec, execSafeExchangeStart]
    split
    · rename_i h
      simp only [Bool.and_eq_true] at h
      exact ⟨_, rfl, (Effect.safeStarted h.1 h.2).done⟩
    · exact ⟨_, rfl, done_refl s⟩
  | badCrcFrame => exact ⟨_, rfl, (Effect.counted _).done⟩
  | upstreamFrameEnd =>
    simp only [exec, execUpstreamFrameEnd]
    split
    · exact ⟨_, rfl, done_refl s⟩
    · rename_i h; exact ⟨_, rfl, (Effect.sentOn h).done⟩
  | unknownRequest tag code args => exact ⟨_, rfl, takeRequest_done (badArgument_answers s) tag code⟩
  | noticeFetch tag args => exact ⟨_, rfl, takeRequest_done (serveNoticeFetch_answers args s) tag 1⟩
  | slotMode tag args => exact ⟨_, rfl, takeRequest_done (serveSlotMode_answers args s) tag 16⟩
  | slotStart tag args => exact ⟨_, rfl, takeRequest_done (serveSlotStart_answers args s) tag 17⟩
  | slotStop tag args => exact ⟨_, rfl, takeRequest_done (serveSlotStop_answers args s) tag 18⟩
  | slotClear tag args => exact ⟨_, rfl, takeRequest_done (serveSlotClear_answers args s) tag 19⟩
  | slotRead tag args => exact ⟨_, rfl, takeRequest_done (serveSlotRead_answers args s) tag 20⟩
  | profileLoad tag args => exact ⟨_, rfl, takeRequest_done (serveProfileLoad_answers args s) tag 32⟩
  | profileDrop tag args => exact ⟨_, rfl, takeRequest_done (serveProfileDrop_answers args s) tag 33⟩
  | profilePurge tag args => exact ⟨_, rfl, takeRequest_done (serveProfilePurge_answers args s) tag 34⟩
  | profileRead tag args => exact ⟨_, rfl, takeRequest_done (serveProfileRead_answers args s) tag 35⟩
  | ruleWrite tag args => exact ⟨_, rfl, takeRequest_done (serveRuleWrite_answers args s) tag 48⟩
  | ruleRead tag args => exact ⟨_, rfl, takeRequest_done (serveRuleRead_answers args s) tag 49⟩
  | ruleDefault tag args => exact ⟨_, rfl, takeRequest_done (serveRuleDefault_answers args s) tag 50⟩
  | storeWrite tag args => exact ⟨_, rfl, takeRequest_done (serveStoreWrite_answers args s) tag 64⟩
  | storeRead tag args => exact ⟨_, rfl, takeRequest_done (serveStoreRead_answers args s) tag 65⟩
  | rackSet tag args => exact ⟨_, rfl, takeRequest_done (serveRackSet_answers args s) tag 80⟩
  | rackRead tag args => exact ⟨_, rfl, takeRequest_done (serveRackRead_answers args s) tag 81⟩
  | mapRead tag args => exact ⟨_, rfl, takeRequest_done (serveMapRead_answers args s) tag 96⟩
  | cardRead tag args =>
    refine ⟨_, rfl, ?_⟩
    cases h : cardReadArgs args with
    | none => exact takeRequest_done (.mk (a := refuse .badArgument) (by rw [serveCardRead, h]; rfl) .unchanged) tag 112
    | some v =>
      obtain ⟨k, p, n⟩ := v
      exact acceptAccess_done tag 112 k ⟨tag, k, (s.slot k).epoch, false⟩ (passThroughRead tag k (s.slot k).epoch p n) _ s
        (by simp only [serveCardRead, h]) rfl (.inl rfl) rfl
  | cardWrite tag args =>
    refine ⟨_, rfl, ?_⟩
    cases h : cardWriteArgs args with
    | none => exact takeRequest_done (.mk (a := refuse .badArgument) (by rw [serveCardWrite, h]; rfl) .unchanged) tag 113
    | some v =>
      obtain ⟨k, p, data⟩ := v
      exact acceptAccess_done tag 113 k ⟨tag, k, (s.slot k).epoch, true⟩
        (passThroughWrite tag k (s.slot k).epoch p data) _ s (by simp only [serveCardWrite, h]) rfl (.inr rfl) rfl
  | restart tag args => exact ⟨_, rfl, takeRequest_done (serveRestart_answers args s) tag 128⟩

/-- What a step can do: idle, redetect the cards after a cold reset, or make a change and form its frame. -/
theorem step_cases {s t : State} (h : step s = .next t) :
    t = s ∨ ∃ c rest, s.pending = c :: rest ∧
      (t = eachSlot allSlots redetect (coldState { s with pending := rest }) ∨ Done { s with pending := rest } t) := by
  unfold step at h
  split at h
  · exact .inl (Host.Outcome.next.inj h).symm
  · rename_i c rest hp
    refine .inr ⟨c, rest, hp, ?_⟩
    by_cases hc : c = .coldReset
    · subst hc; exact .inl (Host.Outcome.next.inj h).symm
    · obtain ⟨u, hu, hd⟩ := exec_done c { s with pending := rest } hc
      rw [hu] at h
      exact .inr (Host.Outcome.next.inj h ▸ hd)

end Sys2Proof.Machine
end

section
/-!
PROOF. What the shared operations leave of the Management Unit and do to the slot records: the settings, and the slots
that a release of power moves.
-/
namespace Sys2Proof.Machine

variable (s : State)

/-! ## The Management Unit but for its notices -/

/-- The Management Unit with its notices left out: what the Power Controller and the gate never touch. -/
def Management.muted (m : Management) : Management := { m with notices := [] }

@[simp] theorem postNotice_muted (b : NoticeBody) : (postNotice b s).mgmt.muted = s.mgmt.muted := rfl
@[simp] theorem enterState_muted (k : Slot) (x : SlotState) : (enterState k x s).mgmt.muted = s.mgmt.muted := rfl
@[simp] theorem grantClaim_muted (k : Slot) : (grantClaim k s).mgmt.muted = s.mgmt.muted := rfl
@[simp] theorem parkClaim_muted (k : Slot) : (parkClaim k s).mgmt.muted = s.mgmt.muted := rfl
@[simp] theorem enterIdentifying_muted (k : Slot) : (enterIdentifying k s).mgmt.muted = s.mgmt.muted := rfl

@[simp] theorem startRamp_muted : (startRamp s).mgmt.muted = s.mgmt.muted := by
  unfold startRamp; split <;> rfl

@[simp] theorem retryClaim_muted (k : Slot) : (retryClaim k s).mgmt.muted = s.mgmt.muted := by
  unfold retryClaim; split <;> rfl

@[simp] theorem requestClaim_muted (k : Slot) : (requestClaim k s).mgmt.muted = s.mgmt.muted := by
  unfold requestClaim; split
  · rw [startRamp_muted, grantClaim_muted]
  · rfl

@[simp] theorem reevaluateClaims_muted : (reevaluateClaims s).mgmt.muted = s.mgmt.muted := by
  rw [reevaluateClaims, startRamp_muted]
  exact eachSlot_same (·.mgmt.muted) _ (fun k u => retryClaim_muted u k) s

@[simp] theorem withdrawPower_muted (k : Slot) : (withdrawPower k s).mgmt.muted = s.mgmt.muted := by
  rw [withdrawPower_eq]; split
  · rw [reevaluateClaims_muted]; rfl
  · rfl

@[simp] theorem admissionGate_muted (k : Slot) : (admissionGate k s).mgmt.muted = s.mgmt.muted := by
  unfold admissionGate; split <;> rfl

/-! ## The settings -/

theorem settings_of_muted {s t : State} (h : t.mgmt.muted = s.mgmt.muted) : t.settings = s.settings :=
  show t.mgmt.muted.settings = s.mgmt.muted.settings from congrArg _ h

@[simp] theorem postReply_settings (r : ReplyFrame) : (postReply r s).settings = s.settings := kickUpstream_settings _
@[simp] theorem postReturn_settings (r : ReturnFrame) : (postReturn r s).settings = s.settings := kickUpstream_settings _
@[simp] theorem startRamp_settings : (startRamp s).settings = s.settings :=
  settings_of_muted (startRamp_muted s)
@[simp] theorem retryClaim_settings (k : Slot) : (retryClaim k s).settings = s.settings :=
  settings_of_muted (retryClaim_muted s k)
@[simp] theorem requestClaim_settings (k : Slot) : (requestClaim k s).settings = s.settings :=
  settings_of_muted (requestClaim_muted s k)
@[simp] theorem reevaluateClaims_settings : (reevaluateClaims s).settings = s.settings :=
  settings_of_muted (reevaluateClaims_muted s)
@[simp] theorem withdrawPower_settings (k : Slot) : (withdrawPower k s).settings = s.settings :=
  settings_of_muted (withdrawPower_muted s k)
@[simp] theorem admissionGate_settings (k : Slot) : (admissionGate k s).settings = s.settings :=
  settings_of_muted (admissionGate_muted s k)
@[simp] theorem enterIdentifying_settings (k : Slot) : (enterIdentifying k s).settings = s.settings := rfl
@[simp] theorem queueTransaction_settings (x : Transaction) : (queueTransaction x s).settings = s.settings := rfl
@[simp] theorem createDownload_settings (k : Slot) : (createDownload k s).settings = s.settings := rfl

@[simp] theorem settlePassThrough_settings (p : PassThrough) (a : Answer) :
    (settlePassThrough p a s).settings = s.settings := kickUpstream_settings _

@[simp] theorem dropPassThroughs_settings (k : Slot) : (dropPassThroughs k s).settings = s.settings := by
  unfold dropPassThroughs
  exact foldl_same s (·.settings) (fun u p => settlePassThrough p ⟨.slotLeft, [slotByte k]⟩ u)
    (fun u p => settlePassThrough_settings u p _) _

@[simp] theorem withdrawService_settings (k : Slot) : (withdrawService k s).settings = s.settings := by
  rw [withdrawService]; exact dropPassThroughs_settings _ k

@[simp] theorem withdrawMaps_settings (k : Slot) : (withdrawMaps k s).settings = s.settings := rfl

@[simp] theorem withdraw_settings (k : Slot) : (withdraw k s).settings = s.settings := by
  rw [withdraw, withdrawMaps_settings, withdrawService_settings]; exact withdrawPower_settings _ k

@[simp] theorem faultEntry_settings (k : Slot) (reason : FaultReason) (code : Option Byte) :
    (faultEntry k reason code s).settings = s.settings := by
  rw [faultEntry, postSlotNotice_settings]; exact withdraw_settings s k

@[simp] theorem reportFault_settings (k : Slot) (e : Epoch) (reason : FaultReason) (code : Option Byte) :
    (reportFault k e reason code s).settings = s.settings := by
  obtain ⟨-, -, h⟩ | ⟨-, h⟩ := reportFault_cases s k e reason code <;> rw [h]
  exact faultEntry_settings s k reason code

/-! ## The slots that a release of power moves -/

/-- How the Power Controller may move a slot: not at all, on from the Power Wait List by a grant, or on from the Ramp
Queue by the start of its ramp (R77, R80). -/
def PowerMove (s t : State) (j : Slot) : Prop :=
  t.slot j = s.slot j
    ∨ (j ∈ s.power.waitList ∧ ∃ x, (x = .rampQueued ∨ x = .ramping)
        ∧ t.slot j = { s.slot j with state := x, parkReason := none })
    ∨ (j ∈ s.power.rampQueue ∧ t.slot j = { s.slot j with state := .ramping })

variable {s}

theorem grantClaim_slot (j k : Slot) : (grantClaim k s).slot j =
    if j = k then { s.slot k with state := .rampQueued, parkReason := none } else s.slot j := by
  unfold grantClaim
  by_cases h : j = k
  · subst h; simp
  · simp [h, enterState_slot_of_ne _ h, State.modSlot_slot_of_ne _ h]

theorem startRamp_slot (j : Slot) : (startRamp s).slot j = s.slot j
    ∨ (j ∈ s.power.rampQueue ∧ (startRamp s).slot j = { s.slot j with state := .ramping }) := by
  obtain ⟨k, rest, -, hq, h⟩ | ⟨-, h⟩ := startRamp_cases s
  · rw [h]
    by_cases hj : j = k
    · subst hj; exact .inr ⟨by simp [hq], by simp⟩
    · exact .inl (enterState_slot_of_ne _ hj _)
  · rw [h]; exact .inl rfl

/-- After the grants of a re-evaluation a slot stands as before, or is one of those tried and in RAMP_QUEUED. -/
theorem retryClaims_slot (ks : List Slot) (j : Slot) :
    ((eachSlot ks retryClaim s).slot j = s.slot j
        ∧ (j ∈ (eachSlot ks retryClaim s).power.rampQueue → j ∈ s.power.rampQueue))
      ∨ (j ∈ ks ∧ (eachSlot ks retryClaim s).slot j = { s.slot j with state := .rampQueued, parkReason := none }) := by
  induction ks generalizing s with
  | nil => exact .inl ⟨rfl, id⟩
  | cons k ks ih =>
    have heach : eachSlot (k :: ks) retryClaim s = eachSlot ks retryClaim (retryClaim k s) := rfl
    rw [heach]
    by_cases hf : claimFits s k = true
    · have hr : retryClaim k s = grantClaim k s := by rw [retryClaim, if_pos hf]
      have hq : (grantClaim k s).power.rampQueue = s.power.rampQueue ++ [k] := rfl
      rw [hr]
      by_cases hj : j = k
      · subst hj
        right
        refine ⟨List.mem_cons_self, ?_⟩
        obtain ⟨h, -⟩ | ⟨-, h⟩ := ih (s := grantClaim j s) <;> rw [h, grantClaim_slot, if_pos rfl]
      · obtain ⟨h, hm⟩ | ⟨hm, h⟩ := ih (s := grantClaim k s) <;> rw [grantClaim_slot, if_neg hj] at h
        · left
          refine ⟨h, fun hjq => ?_⟩
          simpa [hq, hj] using hm hjq
        · exact .inr ⟨List.mem_cons_of_mem k hm, h⟩
    · have hr : retryClaim k s = s := by rw [retryClaim, if_neg hf]
      rw [hr]
      obtain h | ⟨hm, h⟩ := ih (s := s)
      · exact .inl h
      · exact .inr ⟨List.mem_cons_of_mem k hm, h⟩

theorem reevaluateClaims_slot (j : Slot) : PowerMove s (reevaluateClaims s) j := by
  unfold reevaluateClaims
  obtain hs | ⟨hq, hs⟩ := startRamp_slot (s := eachSlot s.power.waitList retryClaim s) j <;>
    obtain ⟨h, hm⟩ | ⟨hw, h⟩ := retryClaims_slot (s := s) s.power.waitList j <;> rw [h] at hs
  · exact .inl hs
  · exact .inr (.inl ⟨hw, _, .inl rfl, hs⟩)
  · exact .inr (.inr ⟨hm hq, hs⟩)
  · exact .inr (.inl ⟨hw, _, .inr rfl, hs⟩)

/-- Once a slot's power is given up, its lists no longer hold it. -/
theorem not_mem_powerGivenUp (k : Slot) :
    k ∉ (powerGivenUp k s).power.waitList ∧ k ∉ (powerGivenUp k s).power.rampQueue := by
  simp [powerGivenUp, without]

theorem withdrawPower_slot (j k : Slot) :
    (j = k → (withdrawPower k s).slot j = s.slot j) ∧ PowerMove s (withdrawPower k s) j := by
  have hmove : PowerMove (powerGivenUp k s) (withdrawPower k s) j := by
    rw [withdrawPower_eq]
    split
    · exact reevaluateClaims_slot j
    · exact .inl rfl
  obtain ⟨hnw, hnq⟩ := not_mem_powerGivenUp (s := s) k
  obtain h | ⟨hw, hx⟩ | ⟨hq, hx⟩ := hmove
  · exact ⟨fun _ => h, .inl h⟩
  · exact ⟨fun e => absurd (e ▸ hw) hnw, .inr (.inl ⟨List.mem_of_mem_filter hw, hx⟩)⟩
  · exact ⟨fun e => absurd (e ▸ hq) hnq, .inr (.inr ⟨List.mem_of_mem_filter hq, hx⟩)⟩

/-- A withdrawal takes the park reason of its slot's record and nothing else (R8). -/
theorem withdraw_slot_same (k : Slot) : (withdraw k s).slot k = { s.slot k with parkReason := none } := by
  have hp : (withdrawPower k (s.setAttempt k none)).slot k = s.slot k := (withdrawPower_slot k k).1 rfl
  rw [withdraw, State.slot, withdrawMaps_slots, withdrawService_slots]
  exact (State.modSlot_slot_same _ k _).trans (by rw [hp])

theorem withdraw_slot_of_ne {j k : Slot} (h : j ≠ k) : PowerMove s (withdraw k s) j := by
  have hw : (withdraw k s).slot j = (withdrawPower k (s.setAttempt k none)).slot j := by
    rw [withdraw, State.slot, withdrawMaps_slots, withdrawService_slots]
    exact State.modSlot_slot_of_ne _ h _
  have hp : PowerMove (s.setAttempt k none) (withdrawPower k (s.setAttempt k none)) j := (withdrawPower_slot j k).2
  unfold PowerMove at hp ⊢
  rw [hw]
  exact hp

/-- The record that fault entry leaves of its slot (R9). -/
def faultedRecord (reason : FaultReason) (code : Option Byte) (r : SlotRecord) : SlotRecord :=
  { r with
    state := if 3 ≤ r.faultRun + 1 then .quarantined else .faulted
    parkReason := none, faultReason := some reason, cardCode := if reason = .cardRefused then code else none
    faultRun := r.faultRun + 1, cleanRun := 0 }

theorem faultEntry_slot_same (k : Slot) (reason : FaultReason) (code : Option Byte) :
    (faultEntry k reason code s).slot k = faultedRecord reason code (s.slot k) := by
  rw [faultEntry, State.slot, postSlotNotice_slots]
  exact (State.modSlot_slot_same _ k _).trans (by rw [withdraw_slot_same]; rfl)

theorem faultEntry_slot_of_ne {j k : Slot} (h : j ≠ k) (reason : FaultReason) (code : Option Byte) :
    PowerMove s (faultEntry k reason code s) j := by
  have hf : (faultEntry k reason code s).slot j = (withdraw k s).slot j := State.modSlot_slot_of_ne _ h _
  have hw := withdraw_slot_of_ne (s := s) h
  unfold PowerMove at hw ⊢
  rwa [hf]

end Sys2Proof.Machine
end

section
/-!
PROOF. The fixtures of the coupler, which only the requests of the tables and the settings change: the library, the
rules, the settings, the receiver and the commands that wait. From them the step and its queue, and the legal tables.
-/
namespace Sys2Proof.Machine

/-- What stands through every event of the rack: the tables, the settings, the receiver and the queue of commands. -/
def fixtures (s : State) :=
  (s.library, s.matcher.rules, s.matcher.defaultAction, s.settings, s.mgmt.receiver, s.pending)

/-! ## The fixtures under each shared operation -/

section
variable (s : State)

@[simp] theorem fixtures_modSlot (k : Slot) (f : SlotRecord → SlotRecord) : fixtures (s.modSlot k f) = fixtures s := rfl
@[simp] theorem fixtures_modPres (k : Slot) (f : PresenceRecord → PresenceRecord) :
    fixtures (s.modPres k f) = fixtures s := rfl
@[simp] theorem fixtures_setAttempt (k : Slot) (a : Option Attempt) : fixtures (s.setAttempt k a) = fixtures s := rfl
@[simp] theorem fixtures_modPower (f : PowerController → PowerController) :
    fixtures (s.modPower f) = fixtures s := rfl
@[simp] theorem fixtures_modPow (k : Slot) (f : PowerRecord → PowerRecord) : fixtures (s.modPow k f) = fixtures s := rfl
@[simp] theorem fixtures_modService (f : ServiceChannel → ServiceChannel) :
    fixtures (s.modService f) = fixtures s := rfl
@[simp] theorem fixtures_setDownload (k : Slot) (d : Option Download) : fixtures (s.setDownload k d) = fixtures s := rfl
@[simp] theorem fixtures_modMaps (f : MapBuilder → MapBuilder) : fixtures (s.modMaps f) = fixtures s := rfl
@[simp] theorem fixtures_modCycle (f : CycleEngine → CycleEngine) : fixtures (s.modCycle f) = fixtures s := rfl
@[simp] theorem fixtures_modCyc (k : Slot) (f : CycleSlot → CycleSlot) : fixtures (s.modCyc k f) = fixtures s := rfl
@[simp] theorem fixtures_postNotice (b : NoticeBody) : fixtures (postNotice b s) = fixtures s := rfl
@[simp] theorem fixtures_postSlotNotice (k : Slot) : fixtures (postSlotNotice k s) = fixtures s := rfl
@[simp] theorem fixtures_enterState (k : Slot) (x : SlotState) : fixtures (enterState k x s) = fixtures s := rfl
@[simp] theorem fixtures_modCounters (f : LinkCounters → LinkCounters) : fixtures (modCounters f s) = fixtures s := rfl
@[simp] theorem fixtures_queueTransaction (x : Transaction) : fixtures (queueTransaction x s) = fixtures s := rfl
@[simp] theorem fixtures_setInFlight (x : Option Transaction) : fixtures (setInFlight x s) = fixtures s := rfl
@[simp] theorem fixtures_segmentOver : fixtures (segmentOver s) = fixtures s := rfl
@[simp] theorem fixtures_createDownload (k : Slot) : fixtures (createDownload k s) = fixtures s := rfl
@[simp] theorem fixtures_enterIdentifying (k : Slot) : fixtures (enterIdentifying k s) = fixtures s := rfl
@[simp] theorem fixtures_grantClaim (k : Slot) : fixtures (grantClaim k s) = fixtures s := rfl
@[simp] theorem fixtures_parkClaim (k : Slot) : fixtures (parkClaim k s) = fixtures s := rfl
@[simp] theorem fixtures_withdrawMaps (k : Slot) : fixtures (withdrawMaps k s) = fixtures s := rfl
@[simp] theorem fixtures_startExchange (kind : ExchangeKind) (es : List MapEntry) (outputs : List Byte) :
    fixtures (startExchange kind es outputs s) = fixtures s := rfl
@[simp] theorem fixtures_enterRunning (e : MapEntry) : fixtures (enterRunning e s) = fixtures s := rfl

@[simp] theorem fixtures_postReply (r : ReplyFrame) : fixtures (postReply r s) = fixtures s := by simp [fixtures]
@[simp] theorem fixtures_postReturn (r : ReturnFrame) : fixtures (postReturn r s) = fixtures s := by simp [fixtures]
@[simp] theorem fixtures_settlePassThrough (p : PassThrough) (a : Answer) :
    fixtures (settlePassThrough p a s) = fixtures s := by simp [fixtures]
@[simp] theorem fixtures_startRamp : fixtures (startRamp s) = fixtures s := by simp [fixtures]
@[simp] theorem fixtures_requestClaim (k : Slot) : fixtures (requestClaim k s) = fixtures s := by simp [fixtures]
@[simp] theorem fixtures_reevaluateClaims : fixtures (reevaluateClaims s) = fixtures s := by simp [fixtures]
@[simp] theorem fixtures_withdraw (k : Slot) : fixtures (withdraw k s) = fixtures s := by
  simp [fixtures, withdraw_matcher]
@[simp] theorem fixtures_faultEntry (k : Slot) (reason : FaultReason) (code : Option Byte) :
    fixtures (faultEntry k reason code s) = fixtures s := by
  rw [faultEntry, fixtures_postSlotNotice, fixtures_modSlot, fixtures_withdraw]
@[simp] theorem fixtures_reportFault (k : Slot) (e : Epoch) (reason : FaultReason) (code : Option Byte) :
    fixtures (reportFault k e reason code s) = fixtures s := by
  unfold reportFault; split
  · exact fixtures_faultEntry s k reason code
  · rfl
@[simp] theorem fixtures_admissionGate (k : Slot) : fixtures (admissionGate k s) = fixtures s := by
  unfold admissionGate; split <;> rfl

theorem fixtures_eachSlot {act : Slot → State → State} (ks : List Slot)
    (h : ∀ k u, fixtures (act k u) = fixtures u) : fixtures (eachSlot ks act s) = fixtures s :=
  eachSlot_same fixtures ks h s

/-! ## The fixtures under each event -/

/-- The state once an accepted frame is counted and the rack runs, before the frame is served or held (R150, R165). -/
def frameTaken (f : HeldFrame) (g : Nat) (long : Bool) (s : State) : State :=
  let t := s.modCycle (acceptEngine s.settings f.cycleCount)
  let u := if s.cycle.rackState = .safe then postNotice (.rackResumed g) t else t
  if long then modCounters (fun c => { c with long := countUp c.long }) u else u

theorem acceptFrame_eq (f : HeldFrame) (g : Nat) (long : Bool) : acceptFrame f g long s =
    if backplaneIdle (frameTaken f g long s) && (frameTaken f g long s).cycle.holder.isNone then
      serveFrame f (frameTaken f g long s)
    else (frameTaken f g long s).modCycle fun c => { c with holder := some f } := rfl

@[simp] theorem fixtures_lineAsserted (k : Slot) : fixtures (lineAsserted k s) = fixtures s := by
  unfold lineAsserted startInsertion
  split
  · dsimp only; split <;> rfl
  all_goals rfl

@[simp] theorem fixtures_lineDeasserted (k : Slot) : fixtures (lineDeasserted k s) = fixtures s := by
  unfold lineDeasserted
  split
  · dsimp only; split <;> rfl
  all_goals rfl

@[simp] theorem fixtures_cardArrived (k : Slot) (e : Epoch) : fixtures (cardArrived k e s) = fixtures s := by
  unfold cardArrived
  split
  · dsimp only; split <;> simp
  · rfl

@[simp] theorem fixtures_cardGone (k : Slot) : fixtures (cardGone k s) = fixtures s := by
  rw [cardGone, fixtures_withdraw]
  split
  · unfold emptySlot; split <;> rfl
  · rfl

@[simp] theorem fixtures_actOnMatch (k : Slot) (e : Epoch) (d : Decision) : fixtures (actOnMatch k e d s) = fixtures s := by
  unfold actOnMatch
  split
  · simp
  · split
    · split <;> simp
    · simp

@[simp] theorem fixtures_identCompletion (x : Transaction) (o : SegmentOutcome) :
    fixtures (identCompletion x o s) = fixtures s := by
  unfold identCompletion
  split
  · split
    · split
      · unfold takeIdentity; dsimp only; split <;> simp
      · unfold failAttempt; split <;> simp
    · rfl
  · rfl

@[simp] theorem fixtures_downloadCompletion (x : Transaction) (c : Completion) :
    fixtures (downloadCompletion x c s) = fixtures s := by
  unfold downloadCompletion
  dsimp only
  split
  · split
    · split
      · simp
      · unfold downloadComplete; split <;> simp
      · simp
      · simp
    · rfl
  · rfl

@[simp] theorem fixtures_completeTransaction (x : Transaction) (c : Completion) :
    fixtures (completeTransaction x c s) = fixtures s := by
  unfold completeTransaction
  split
  · simp
  · unfold passThroughCompletion; split <;> simp

@[simp] theorem fixtures_rampGood (k : Slot) : fixtures (rampGood k s) = fixtures s := by
  rw [rampGood, fixtures_startRamp]; rfl

@[simp] theorem fixtures_rampBad (k : Slot) : fixtures (rampBad k s) = fixtures s := by
  unfold rampBad; split
  · simp
  · rfl

@[simp] theorem fixtures_rampDiscarded (k : Slot) : fixtures (rampDiscarded k s) = fixtures s := by
  rw [rampDiscarded, fixtures_startRamp]; rfl

@[simp] theorem fixtures_reportPlaced (k : Slot) : fixtures (reportPlaced k s) = fixtures s := by
  unfold reportPlaced; split <;> rfl

@[simp] theorem fixtures_reportParked (k : Slot) (reason : ParkReason) :
    fixtures (reportParked k reason s) = fixtures s := by
  unfold reportParked; split <;> rfl

theorem fixtures_retryParked (b : BuildState) (k : Slot) : fixtures (retryParked b k).state = fixtures b.state := by
  unfold retryParked; split <;> simp

theorem fixtures_applyAdd (b : BuildState) (k : Slot) : fixtures (applyAdd b k).state = fixtures b.state := by
  unfold applyAdd; split <;> simp

/-- What every try of a build leaves, the build leaves. -/
theorem foldl_build_same {β : Type} (view : State → β) (act : BuildState → Slot → BuildState)
    (same : ∀ b k, view (act b k).state = view b.state) (ks : List Slot) (b : BuildState) :
    view (ks.foldl act b).state = view b.state := by
  induction ks generalizing b with
  | nil => rfl
  | cons k ks ih => rw [List.foldl_cons, ih, same]

@[simp] theorem fixtures_runBuild : fixtures (runBuild s) = fixtures s := by
  have hoffer : ∀ removed b, fixtures (offerMap removed b) = fixtures b.state := by
    intro removed b; unfold offerMap; dsimp only; split <;> rfl
  rw [runBuild, hoffer, foldl_build_same fixtures applyAdd fixtures_applyAdd,
    foldl_build_same fixtures retryParked fixtures_retryParked]
  rfl

@[simp] theorem fixtures_swapMaps : fixtures (swapMaps s) = fixtures s := by
  unfold swapMaps
  split
  · rw [fixtures_postNotice, fixtures_eachSlot]
    · rfl
    · intro k u
      unfold reportSwapped
      split
      · split <;> rfl
      · rfl
  · rfl

@[simp] theorem fixtures_serveFrame (f : HeldFrame) : fixtures (serveFrame f s) = fixtures s := by
  unfold serveFrame
  simp only [fixtures_startExchange]
  rw [foldl_same _ fixtures (fun s e => copyOutput f.output e s)
    (fun u e => by unfold copyOutput; split <;> rfl)]
  split
  · exact fixtures_swapMaps s
  · rfl

@[simp] theorem fixtures_frameTaken (f : HeldFrame) (g : Nat) (long : Bool) :
    fixtures (frameTaken f g long s) = fixtures s := by
  unfold frameTaken
  cases long <;> split <;> rfl

@[simp] theorem fixtures_acceptFrame (f : HeldFrame) (g : Nat) (long : Bool) :
    fixtures (acceptFrame f g long s) = fixtures s := by
  rw [acceptFrame_eq]
  split <;> simp

@[simp] theorem fixtures_accountSlot (limit : Nat) (p : Addressed × WindowOutcome) :
    fixtures (accountSlot limit s p) = fixtures s := by
  unfold accountSlot
  split
  · split
    · unfold takeResponse; dsimp only; split <;> rfl
    · unfold takeMiss; dsimp only; split <;> simp
  · rfl

@[simp] theorem fixtures_stopSlot (k : Slot) : fixtures (stopSlot k s) = fixtures s := by
  rw [stopSlot, fixtures_enterState, fixtures_modSlot, fixtures_withdraw]

@[simp] theorem fixtures_setMode (k : Slot) (m : Mode) : fixtures (setMode k m s) = fixtures s := by
  unfold setMode
  dsimp only
  split
  · rfl
  · split <;> simp

@[simp] theorem fixtures_clearFaulted (k : Slot) : fixtures (clearFaulted k s) = fixtures s := by
  rw [clearFaulted, fixtures_admissionGate]; rfl

theorem fixtures_resumeInsertion (k : Slot) : fixtures (resumeInsertion k s) = fixtures s := by
  unfold resumeInsertion; split
  · simp
  · rfl

@[simp] theorem fixtures_restartAll : fixtures (restartAll s) = fixtures s := by
  rw [restartAll, fixtures_eachSlot _ _ (fun k u => fixtures_admissionGate u k),
    fixtures_eachSlot _ _ (fun k u => fixtures_resumeInsertion u k)]
  rfl

end

/-! ## What a command leaves of the fixtures -/

/-- A request of the tables or of the settings (R53, R55, R64 to R67, R70, R178). -/
inductive TablesChanged (s : State) : State → Prop
  | profileLoaded (args : List Byte) (i : ProfileIndex) (p : Profile) (h : profileLoadArgs args = some (i, p)) :
      TablesChanged s (s.setProfile i p)
  | profileDropped (i : ProfileIndex) : TablesChanged s (s.setProfile i Profile.reset)
  | profilesPurged : TablesChanged s ((purgeable s).foldl (fun t i => t.setProfile i Profile.reset) s)
  | ruleWritten (i : RuleIndex) (r : Rule) :
      TablesChanged s { s with matcher := { s.matcher with rules := amend s.matcher.rules i fun _ => r } }
  | defaultSet (d : Decision) : TablesChanged s { s with matcher := { s.matcher with defaultAction := d } }
  | storeWritten (o : Nat) (data : List Byte) : TablesChanged s (s.setStore (s.library.store.writeRange o data))
  | settingsPut (args : List Byte) (r : RackSettings) (h : rackSetArgs args = some r)
      (hr : rackSetReason s r = none) : TablesChanged s (putSettings r s)

theorem Served.fixtures_cases {s t : State} (h : Served s t) : fixtures t = fixtures s ∨ TablesChanged s t := by
  cases h with
  | unchanged => exact .inl rfl
  | noticesFetched n => exact .inl rfl
  | countersCleared => exact .inl rfl
  | modeSet k m => exact .inl (fixtures_setMode s k m)
  | started k _ _ => exact .inl rfl
  | stopped k _ => exact .inl (fixtures_stopSlot s k)
  | faultedCleared k _ => exact .inl (fixtures_clearFaulted s k)
  | quarantinedCleared k _ => exact .inl rfl
  | profileLoaded args i p h _ _ => exact .inr (.profileLoaded args i p h)
  | profileDropped i _ => exact .inr (.profileDropped i)
  | profilesPurged => exact .inr .profilesPurged
  | ruleWritten i r => exact .inr (.ruleWritten i r)
  | defaultSet d => exact .inr (.defaultSet d)
  | storeWritten o data => exact .inr (.storeWritten o data)
  | settingsPut args r h hr => exact .inr (.settingsPut args r h hr)
  | restarted => exact .inl (fixtures_restartAll s)

theorem Effect.fixtures_cases {s t : State} (h : Effect s t) : fixtures t = fixtures s ∨ TablesChanged s t := by
  cases h with
  | served h => exact h.fixtures_cases
  | accounted x _ _ _ =>
    left
    rw [foldl_same _ fixtures _ (fun u p => fixtures_accountSlot u (missLimit s) p)]
    rfl
  | accessAccepted k p x _ _ _ _ _ _ => exact .inl rfl
  | sentOn _ => left; simp [fixtures, State.settings]
  | _ => left; simp

theorem Posted.fixtures_eq {s u t : State} (h : Posted s u t) : fixtures t = fixtures u := by
  cases h <;> simp

theorem Done.fixtures_cases {s t : State} (h : Done s t) :
    fixtures t = fixtures s ∨ ∃ u, TablesChanged s u ∧ fixtures t = fixtures u := by
  obtain ⟨u, he, hp⟩ := h
  obtain h | h := he.fixtures_cases
  · exact .inl (hp.fixtures_eq.trans h)
  · exact .inr ⟨u, h, hp.fixtures_eq⟩

/-- Handing the settings on changes nothing of the fixtures but the settings themselves. -/
theorem fixtures_putSettings (r : RackSettings) (s : State) :
    fixtures (putSettings r s) = fixtures (s.modMgmt fun m => { m with settings := r.clamped }) := by
  have htiming : ∀ b u, fixtures (handTiming b u) = fixtures u := by
    intro b u; unfold handTiming; split <;> rfl
  have hadmission : ∀ b u, fixtures (handAdmission b u) = fixtures u := by
    intro b u; unfold handAdmission; split
    · exact fixtures_eachSlot u _ fun k v => fixtures_admissionGate v k
    · rfl
  have hbudget : ∀ b u, fixtures (handBudget b u) = fixtures u := by
    intro b u; unfold handBudget; split
    · exact fixtures_reevaluateClaims u
    · rfl
  rw [putSettings, htiming, hadmission, hbudget]

end Sys2Proof.Machine
end

section
/-!
PROOF. The step and its queue, the reset values, and the tables and settings that every step keeps legal.
-/
namespace Sys2Proof.Machine

/-! ## The step and its queue -/

/-- Settles O1. -/
theorem stepRunsFrontCommand : Obligations.StepRunsFrontCommand :=
  ⟨fun _ _ => rfl, fun s h => by rw [step, h]⟩

theorem fixtures_redetect (k : Slot) (s : State) : fixtures (redetect k s) = fixtures s := by
  unfold redetect; split
  · exact fixtures_lineAsserted s k
  · rfl

/-- A cold reset with its redetection leaves the fixtures that the cold state has. -/
theorem fixtures_coldReset (s : State) :
    fixtures (eachSlot allSlots redetect (coldState s)) = fixtures (coldState s) :=
  fixtures_eachSlot _ _ fixtures_redetect

theorem pending_of_fixtures {s t : State} (h : fixtures t = fixtures s) : t.pending = s.pending :=
  congrArg (·.2.2.2.2.2) h

theorem receiver_of_fixtures {s t : State} (h : fixtures t = fixtures s) : t.mgmt.receiver = s.mgmt.receiver :=
  congrArg (·.2.2.2.2.1) h

theorem library_of_fixtures {s t : State} (h : fixtures t = fixtures s) : t.library = s.library := congrArg (·.1) h

theorem sets_of_fixtures {s t : State} (h : fixtures t = fixtures s) : t.settings = s.settings :=
  congrArg (·.2.2.2.1) h

/-- A run of profile drops leaves all but the profiles. -/
theorem foldl_setProfile_frame (is : List ProfileIndex) (r : Profile) (s : State) :
    is.foldl (fun t i => t.setProfile i r) s =
      { s with library := { s.library with
          profiles := (is.foldl (fun t i => t.setProfile i r) s).library.profiles } } := by
  induction is generalizing s with
  | nil => rfl
  | cons i is ih =>
    rw [List.foldl_cons, ih]
    rfl

/-- The requests of the tables leave the receiver and the waiting commands. -/
theorem TablesChanged.keeps {s t : State} (h : TablesChanged s t) :
    t.mgmt.receiver = s.mgmt.receiver ∧ t.pending = s.pending := by
  cases h with
  | profilesPurged => rw [foldl_setProfile_frame]; exact ⟨rfl, rfl⟩
  | settingsPut args r _ _ =>
    have hf := fixtures_putSettings r s
    exact ⟨(receiver_of_fixtures hf).trans rfl, (pending_of_fixtures hf).trans rfl⟩
  | _ => exact ⟨rfl, rfl⟩

theorem Done.keeps {s t : State} (h : Done s t) : t.mgmt.receiver = s.mgmt.receiver ∧ t.pending = s.pending := by
  obtain h | ⟨u, hu, h⟩ := h.fixtures_cases
  · exact ⟨receiver_of_fixtures h, pending_of_fixtures h⟩
  · obtain ⟨hr, hp⟩ := hu.keeps
    exact ⟨(receiver_of_fixtures h).trans hr, (pending_of_fixtures h).trans hp⟩

/-- Settles O2. -/
theorem commandsCompleteAndKeepQueue : Obligations.CommandsCompleteAndKeepQueue := by
  intro c s
  by_cases hc : c = .coldReset
  · subst hc
    exact ⟨_, rfl, (pending_of_fixtures (fixtures_coldReset s)).trans rfl⟩
  · obtain ⟨t, ht, hd⟩ := exec_done c s hc
    exact ⟨t, ht, hd.keeps.2⟩

/-- Only a cold reset acts on the frame being received (R170). -/
theorem exec_receiver {c : Instr} {s t : State} (h : exec c s = .next t) :
    t.mgmt.receiver = if c = .coldReset then none else s.mgmt.receiver := by
  split
  · rename_i hc
    subst hc
    obtain rfl := Host.Outcome.next.inj h
    exact (receiver_of_fixtures (fixtures_coldReset s)).trans rfl
  · rename_i hc
    obtain ⟨u, hu, hd⟩ := exec_done c s hc
    rw [hu] at h
    exact Host.Outcome.next.inj h ▸ hd.keeps.1

/-! ## Invariants along a step -/

/-- A predicate that no waiting command enters holds after a step when it holds after a cold reset and every change of
a command keeps it. -/
theorem step_keeps {P : State → Prop} (hfree : ∀ s rest, P s → P { s with pending := rest })
    (hcold : ∀ s, P s → P (eachSlot allSlots redetect (coldState s)))
    (hdone : ∀ s t, P s → Done s t → P t) {s t : State} (hs : P s) (h : step s = .next t) : P t := by
  obtain ht | ⟨c, rest, -, ht | hd⟩ := step_cases h
  · exact ht ▸ hs
  · exact ht ▸ hcold _ (hfree s rest hs)
  · exact hdone _ t (hfree s rest hs) hd

/-! ## Legal tables -/

theorem nat16_le (hi lo : Byte) : nat16 hi lo ≤ 65535 := by
  have h1 := hi.isLt
  have h2 := lo.isLt
  unfold nat16
  omega

theorem le_clamp (low high v : Nat) : low ≤ clamp low high v := Nat.le_max_left ..

theorem clamp_le {low high : Nat} (h : low ≤ high) (v : Nat) : clamp low high v ≤ high := by
  unfold clamp; omega

theorem profileSound_reset : ProfileSound Profile.reset := by
  refine ⟨?_, ?_, ?_, ?_, ?_, ?_, ?_, ?_, ?_, ?_, ?_⟩ <;> simp [Profile.reset]

theorem ParameterRecord.legal_iff (r : ParameterRecord) : r.legal = true ↔
    1 ≤ r.length ∧ r.length ≤ 1024 ∧ r.offset ≤ 16383 ∧ r.offset + r.length ≤ 16384 := by
  simp only [ParameterRecord.legal, Bool.and_eq_true, decide_eq_true_eq]
  simp only [Config.storeSize]
  omega

theorem patternLegal_iff (o n : Nat) : patternLegal o n = true ↔ o ≤ 16383 ∧ o + n ≤ 16384 := by
  simp only [patternLegal, Bool.and_eq_true, decide_eq_true_eq]
  simp only [Config.storeSize]
  omega

/-- A profile that a PROFILE LOAD carries is legal (R58 to R60, R64). -/
theorem profileSound_of_args {args : List Byte} {i : ProfileIndex} {p : Profile}
    (h : profileLoadArgs args = some (i, p)) : ProfileSound p := by
  unfold profileLoadArgs at h
  split at h
  · rename_i i' lk p1 p0 r1 r0 c1 c0 ol il al sm o1 o0 n rest
    simp only [Option.bind_eq_some_iff] at h
    obtain ⟨index, -, locked, -, mode, -, records, -, h⟩ := h
    split at h
    · rename_i hlegal
      simp only [Bool.and_eq_true, Bool.or_eq_true, decide_eq_true_eq, List.all_eq_true,
        ParameterRecord.legal_iff, patternLegal_iff, ← BitVec.toNat_inj] at hlegal
      obtain ⟨⟨⟨⟨⟨⟨hn, hn8⟩, hol⟩, hil⟩, hal⟩, hrec⟩, hpat⟩ := hlegal
      obtain ⟨-, rfl⟩ := Prod.mk.inj (Option.some.inj h)
      refine ⟨⟨le_clamp .., clamp_le (by decide) _⟩, ⟨le_clamp .., clamp_le (by decide) _⟩,
        ⟨le_clamp .., clamp_le (by decide) _⟩, hol, hil, ?_, ?_, ?_, ?_, ?_, ?_⟩
      · simpa [or_assoc] using hal
      · by_cases hm : mode = .pattern <;> simp [hm]
      · intro o ho
        by_cases hm : mode = .pattern
        · simp only [hm, if_pos, Option.some.injEq] at ho
          simpa [hm, ho] using hpat
        · simp [hm] at ho
      · show records.length ≤ 8
        omega
      · exact hrec
      · intro hv; cases hv
    · cases h
  · cases h

/-- The rack settings that a RACK SET carries, before the reserve is checked (R177). -/
theorem rackSetArgs_range {args : List Byte} {r : RackSettings} (h : rackSetArgs args = some r) :
    (250 ≤ r.period ∧ r.period ≤ 10000) ∧ r.budget ≤ 65535 := by
  unfold rackSetArgs at h
  split at h
  · simp only [Option.bind_eq_some_iff] at h
    obtain ⟨rate, -, admission, -, h⟩ := h
    split at h
    · rename_i hp
      obtain rfl := Option.some.inj h
      exact ⟨by simpa using hp, nat16_le _ _⟩
    · cases h
  · cases h

/-- A RACK SET whose checks pass has the reserve and the fit of both maps that R177 asks for, and no rate changes under a
transaction in flight. -/
theorem rackSetReason_eq_none_iff (s : State) (r : RackSettings) : rackSetReason s r = none ↔
    (r.rate.minReserve ≤ r.reserve ∧ fits r s.maps.active.entries = true
      ∧ ∀ m, s.maps.offered = some m → fits r m.entries = true)
    ∧ ¬ (r.rate ≠ s.settings.rate ∧ s.service.inFlight.isSome = true) := by
  unfold rackSetReason
  split
  · rename_i h; simp only [false_iff, reduceCtorEq]; omega
  · rename_i h
    have h' : r.rate.minReserve ≤ r.reserve := by omega
    split
    · rename_i hf
      have hf' : fits r s.maps.active.entries = false := by simpa using hf
      simp [hf']
    · rename_i hf
      have hf' : fits r s.maps.active.entries = true := by simpa using hf
      split
      · rename_i ho
        simp only [reduceCtorEq, false_iff]
        rintro ⟨⟨-, -, hall⟩, -⟩
        refine absurd ?_ (Bool.eq_false_iff.mp (by simpa using ho :
          (s.maps.offered.all fun m => fits r m.entries) = false))
        cases hm : s.maps.offered with
        | none => rfl
        | some m => simpa using hall m hm
      · rename_i ho
        have ho' : ∀ m, s.maps.offered = some m → fits r m.entries = true := by
          intro m hm; simpa [hm] using ho
        split
        · rename_i hb; simp [hb]
        · rename_i hb; exact iff_of_true rfl ⟨⟨h', hf', ho'⟩, hb⟩

theorem settingsSound_clamped {args : List Byte} {s : State} {r : RackSettings} (h : rackSetArgs args = some r)
    (hr : rackSetReason s r = none) : SettingsSound r.clamped := by
  obtain ⟨hp, hb⟩ := rackSetArgs_range h
  obtain ⟨⟨hres, -, -⟩, -⟩ := (rackSetReason_eq_none_iff s r).mp hr
  exact ⟨hp, hres, hb, ⟨le_clamp .., clamp_le (by decide) _⟩, clamp_le (by decide) _,
    ⟨le_clamp .., clamp_le (by decide) _⟩, ⟨le_clamp .., clamp_le (by decide) _⟩,
    ⟨le_clamp .., clamp_le (by decide) _⟩⟩

theorem tablesSound_congr {s t : State} (hl : t.library = s.library) (hs : t.settings = s.settings)
    (h : TablesSound s) : TablesSound t := by
  unfold TablesSound State.profile at h ⊢
  rw [hl, hs]
  exact h

theorem tablesSound_setProfile {s : State} (h : TablesSound s) (i : ProfileIndex) {p : Profile} (hp : ProfileSound p) :
    TablesSound (s.setProfile i p) := by
  obtain ⟨hset, hprof, hstore⟩ := h
  refine ⟨hset, fun j => ?_, hstore⟩
  by_cases hj : j = i
  · subst hj; rw [State.setProfile_profile_same]; exact hp
  · rw [State.setProfile_profile_of_ne _ hj]; exact hprof j

theorem TablesChanged.keeps_tablesSound {s t : State} (hs : TablesSound s) (h : TablesChanged s t) : TablesSound t := by
  cases h with
  | profileLoaded args i p hp => exact tablesSound_setProfile hs i (profileSound_of_args hp)
  | profileDropped i => exact tablesSound_setProfile hs i profileSound_reset
  | profilesPurged =>
    generalize purgeable s = is
    induction is generalizing s with
    | nil => exact hs
    | cons i is ih => exact ih (tablesSound_setProfile hs i profileSound_reset)
  | ruleWritten i r => exact hs
  | defaultSet d => exact hs
  | storeWritten o data =>
    obtain ⟨hset, hprof, hstore⟩ := hs
    exact ⟨hset, hprof, Memory.writeRange_wf hstore o data⟩
  | settingsPut args r hr hreason =>
    have hf := fixtures_putSettings r s
    obtain ⟨-, hprof, hstore⟩ := hs
    exact tablesSound_congr (library_of_fixtures hf) (sets_of_fixtures hf)
      ⟨settingsSound_clamped hr hreason, hprof, hstore⟩

theorem tablesSound_reset : TablesSound State.reset := by
  refine ⟨?_, fun i => ?_, rfl⟩
  · unfold SettingsSound; decide
  · have : State.reset.profile i = Profile.reset := look_replicate _ i
    rw [this]; exact profileSound_reset

/-- Settles O5: only the requests of the tables and the settings change them, and each writes legal values. -/
theorem stepKeepsTablesSound : Obligations.StepKeepsTablesSound := by
  intro s t hs
  refine step_keeps (fun _ _ h => h) (fun u _ => ?_) (fun u v hu hd => ?_) hs
  · have hf := fixtures_coldReset u
    exact tablesSound_congr (library_of_fixtures hf) (sets_of_fixtures hf) tablesSound_reset
  · obtain hf | ⟨w, hw, hf⟩ := hd.fixtures_cases
    · exact tablesSound_congr (library_of_fixtures hf) (sets_of_fixtures hf) hu
    · exact tablesSound_congr (library_of_fixtures hf) (sets_of_fixtures hf) (hw.keeps_tablesSound hu)

end Sys2Proof.Machine
end

section
/-!
PROOF. Grants and the budget (R75, R77): a change either takes claims away and grants none, or leaves the sum of claims
within the budget.
-/
namespace Sys2Proof.Machine

/-! ## Sums of claims -/

theorem sum_map_le_add_count {α : Type} [DecidableEq α] (l : List α) (f g : α → Nat) (k : α) (d : Nat)
    (hk : g k ≤ d) (hg : ∀ j, j ≠ k → g j ≤ f j) : (l.map g).sum ≤ (l.map f).sum + l.count k * d := by
  induction l with
  | nil => simp
  | cons j l ih =>
    simp only [List.map_cons, List.sum_cons, List.count_cons]
    by_cases hj : j = k
    · subst hj
      simp only [beq_self_eq_true, if_true, Nat.add_mul, Nat.one_mul]
      omega
    · have := hg j hj
      simp only [beq_iff_eq, hj, if_false, Nat.add_zero]
      omega

theorem allSlots_count (k : Slot) : allSlots.count k = 1 := by revert k; decide

/-- The sum of claims grows by no more than the claim that one slot is given. -/
theorem sumOfClaims_le_of_grant {s t : State} (k : Slot) (d : Nat) (hk : (t.powerClaim k).getD 0 ≤ d)
    (h : ∀ j, j ≠ k → (t.pow j).claim = (s.pow j).claim) : sumOfClaims t ≤ sumOfClaims s + d := by
  have := sum_map_le_add_count allSlots (fun j => (s.powerClaim j).getD 0) (fun j => (t.powerClaim j).getD 0) k d hk
    fun j hj => by simp only [State.powerClaim, h j hj]; exact Nat.le_refl _
  simpa [sumOfClaims, allSlots_count] using this

/-- No slot holds a claim in `t` but the one it held in `s`. -/
def ClaimsShrink (s t : State) : Prop := ∀ k, (t.pow k).claim = (s.pow k).claim ∨ (t.pow k).claim = none

theorem ClaimsShrink.trans {s u t : State} (h : ClaimsShrink s u) (h' : ClaimsShrink u t) : ClaimsShrink s t := by
  intro k
  obtain hk' | hk' := h' k
  · rw [hk']; exact h k
  · exact .inr hk'

theorem ClaimsShrink.sum_le {s t : State} (h : ClaimsShrink s t) : sumOfClaims t ≤ sumOfClaims s := by
  refine List.sum_le_sum fun k _ => ?_
  simp only [State.powerClaim]
  obtain hk | hk := h k <;> simp [hk]

/-- A change takes claims away and grants none, or leaves their sum within the budget. -/
def BudgetKept (s t : State) : Prop := ClaimsShrink s t ∨ sumOfClaims t ≤ t.settings.budget

theorem BudgetKept.of_power {s t : State} (h : t.power = s.power) : BudgetKept s t :=
  .inl fun k => .inl (by rw [State.pow, State.pow, h])

theorem BudgetKept.trans {s u t : State} (h : BudgetKept s u) (h' : BudgetKept u t)
    (hb : t.settings = u.settings) : BudgetKept s t := by
  obtain h' | h' := h'
  · obtain h | h := h
    · exact .inl (h.trans h')
    · exact .inr (by rw [hb]; exact h'.sum_le.trans h)
  · exact .inr h'

theorem BudgetKept.of_same {s u t : State} (h : BudgetKept u t) (hp : u.power = s.power) : BudgetKept s t := by
  refine h.imp (fun h k => ?_) id
  have hk := h k
  rwa [State.pow, State.pow, hp] at hk

theorem BudgetKept.then_power {s u t : State} (h : BudgetKept s u) (hp : t.power = u.power)
    (hb : t.settings = u.settings) : BudgetKept s t := h.trans (.of_power hp) hb

theorem BudgetKept.eachSlot {act : Slot → State → State} (hact : ∀ k u, BudgetKept u (act k u))
    (hset : ∀ k u, (act k u).settings = u.settings) (ks : List Slot) (s : State) :
    BudgetKept s (eachSlot ks act s) := by
  induction ks generalizing s with
  | nil => exact .of_power rfl
  | cons k ks ih => exact (hact k s).trans (ih (act k s)) (eachSlot_same State.settings ks hset _)

/-! ## The operations of the Power Controller -/

theorem startRamp_shrinks (s : State) : ClaimsShrink s (startRamp s) := by
  intro j
  obtain ⟨k, rest, -, -, h⟩ | ⟨-, h⟩ := startRamp_cases s
  · left
    rw [h, State.pow, enterState_power]
    by_cases hj : j = k
    · subst hj
      exact (congrArg PowerRecord.claim (State.modPow_pow_same _ j _)).trans rfl
    · exact (congrArg PowerRecord.claim (State.modPow_pow_of_ne _ hj _)).trans rfl
  · rw [h]; exact .inl rfl

theorem grantClaim_budget {k : Slot} {s : State} (h : claimFits s k = true) : BudgetKept s (grantClaim k s) := by
  right
  have hclaim : (grantClaim k s).pow k = { s.pow k with claim := some ⟨(s.profileOf k).powerDraw, (s.slot k).epoch⟩ } :=
    look_amend_same ..
  have hothers : ∀ j, j ≠ k → ((grantClaim k s).pow j).claim = (s.pow j).claim := fun j hj =>
    congrArg PowerRecord.claim (look_amend_of_ne _ hj _)
  have hsum := sumOfClaims_le_of_grant k (s.profileOf k).powerDraw
    (by simp [State.powerClaim, hclaim]) hothers
  have hfits : sumOfClaims s + (s.profileOf k).powerDraw ≤ s.settings.budget := by simpa [claimFits] using h
  exact hsum.trans hfits

theorem retryClaim_budget (k : Slot) (s : State) : BudgetKept s (retryClaim k s) := by
  unfold retryClaim
  split
  · rename_i h; exact grantClaim_budget h
  · exact .of_power rfl

theorem requestClaim_budget (k : Slot) (s : State) : BudgetKept s (requestClaim k s) := by
  unfold requestClaim
  split
  · rename_i h
    exact (grantClaim_budget h).trans (.inl (startRamp_shrinks _)) (startRamp_settings _)
  · exact .inl fun j => .inl rfl

theorem reevaluateClaims_budget (s : State) : BudgetKept s (reevaluateClaims s) :=
  (BudgetKept.eachSlot retryClaim_budget (fun k u => retryClaim_settings u k) _ s).trans
    (.inl (startRamp_shrinks _)) (startRamp_settings _)

theorem powerGivenUp_shrinks (k : Slot) (s : State) : ClaimsShrink s (powerGivenUp k s) := by
  intro j
  by_cases hj : j = k
  · subst hj; exact .inr (congrArg PowerRecord.claim (look_amend_same ..))
  · exact .inl (congrArg PowerRecord.claim (look_amend_of_ne _ hj _))

theorem withdrawPower_budget (k : Slot) (s : State) : BudgetKept s (withdrawPower k s) := by
  rw [withdrawPower_eq]
  split
  · exact .trans (.inl (powerGivenUp_shrinks k s)) (reevaluateClaims_budget _) (reevaluateClaims_settings _)
  · exact .inl (powerGivenUp_shrinks k s)

theorem withdraw_power (k : Slot) (s : State) :
    (withdraw k s).power = (withdrawPower k (s.setAttempt k none)).power := by
  rw [withdraw, withdrawMaps_power, withdrawService_power]; rfl

theorem withdraw_budget (k : Slot) (s : State) : BudgetKept s (withdraw k s) :=
  ((BudgetKept.of_power rfl).trans (withdrawPower_budget k (s.setAttempt k none))
    (withdrawPower_settings _ k)).then_power (withdraw_power k s)
    ((withdraw_settings s k).trans (withdrawPower_settings (s.setAttempt k none) k).symm)

theorem faultEntry_budget (k : Slot) (reason : FaultReason) (code : Option Byte) (s : State) :
    BudgetKept s (faultEntry k reason code s) :=
  (withdraw_budget k s).then_power rfl rfl

theorem reportFault_budget (k : Slot) (e : Epoch) (reason : FaultReason) (code : Option Byte) (s : State) :
    BudgetKept s (reportFault k e reason code s) := by
  obtain ⟨-, -, h⟩ | ⟨-, h⟩ := reportFault_cases s k e reason code <;> rw [h]
  · exact faultEntry_budget k reason code s
  · exact .of_power rfl

/-! ## The events -/

theorem lineAsserted_power (k : Slot) (s : State) : (lineAsserted k s).power = s.power := by
  unfold lineAsserted startInsertion
  split
  · dsimp only; split <;> rfl
  all_goals rfl

theorem lineDeasserted_power (k : Slot) (s : State) : (lineDeasserted k s).power = s.power := by
  unfold lineDeasserted
  split
  · dsimp only; split <;> rfl
  all_goals rfl

theorem cardArrived_power (k : Slot) (e : Epoch) (s : State) : (cardArrived k e s).power = s.power := by
  unfold cardArrived
  split
  · dsimp only
    split
    · rw [admissionGate_power]; rfl
    · rfl
  · rfl

theorem emptySlot_power (k : Slot) (s : State) : (emptySlot k s).power = s.power := by
  unfold emptySlot; split <;> rfl

theorem setMode_power (k : Slot) (m : Mode) (s : State) : (setMode k m s).power = s.power := by
  unfold setMode
  dsimp only
  split
  · rfl
  · split
    · rw [admissionGate_power]; rfl
    · rfl

theorem runBuild_power (s : State) : (runBuild s).power = s.power := by
  have hplaced : ∀ k u, (reportPlaced k u).power = u.power := by
    intro k u; unfold reportPlaced; split <;> rfl
  have hparked : ∀ k r u, (reportParked k r u).power = u.power := by
    intro k r u; unfold reportParked; split <;> rfl
  have hoffer : ∀ removed b, (offerMap removed b).power = b.state.power := by
    intro removed b; unfold offerMap; dsimp only; split <;> rfl
  rw [runBuild, hoffer, foldl_build_same State.power applyAdd, foldl_build_same State.power retryParked]
  · rfl
  · intro b k; unfold retryParked; split <;> simp [hplaced, hparked]
  · intro b k; unfold applyAdd; split <;> simp [hplaced, hparked]

theorem swapMaps_power (s : State) : (swapMaps s).power = s.power := by
  have hswap : ∀ k u, (reportSwapped k u).power = u.power := by
    intro k u
    unfold reportSwapped
    split
    · split <;> rfl
    · rfl
  unfold swapMaps
  split
  · rw [postNotice_power, eachSlot_same State.power _ hswap]; rfl
  · rfl

theorem serveFrame_power (f : HeldFrame) (s : State) : (serveFrame f s).power = s.power := by
  have hcopy : ∀ u e, (copyOutput f.output e u).power = u.power := by
    intro u e; unfold copyOutput; split <;> rfl
  unfold serveFrame
  dsimp only [startExchange, State.modCycle_power]
  rw [foldl_same _ State.power (fun s e => copyOutput f.output e s) hcopy]
  split
  · exact swapMaps_power s
  · rfl

theorem frameTaken_power (f : HeldFrame) (g : Nat) (long : Bool) (s : State) :
    (frameTaken f g long s).power = s.power := by
  unfold frameTaken
  cases long <;> split <;> rfl

theorem acceptFrame_power (f : HeldFrame) (g : Nat) (long : Bool) (s : State) :
    (acceptFrame f g long s).power = s.power := by
  rw [acceptFrame_eq]
  split
  · rw [serveFrame_power, frameTaken_power]
  · exact frameTaken_power f g long s

theorem identCompletion_budget (x : Transaction) (o : SegmentOutcome) (s : State) :
    BudgetKept s (identCompletion x o s) := by
  unfold identCompletion
  split
  · split
    · split
      · unfold takeIdentity
        dsimp only
        split
        · unfold actOnMatch
          split
          · exact .of_same (reportFault_budget ..) rfl
          · split
            · split
              · exact .of_same (requestClaim_budget ..) rfl
              · exact .of_power rfl
            · exact .of_same (reportFault_budget ..) rfl
        · exact .of_same (reportFault_budget ..) rfl
      · unfold failAttempt
        split
        · exact .of_power rfl
        · exact .of_same (reportFault_budget ..) rfl
    · exact .of_power rfl
  · exact .of_power rfl

theorem completeTransaction_budget (x : Transaction) (c : Completion) (s : State) :
    BudgetKept s (completeTransaction x c s) := by
  unfold completeTransaction
  split
  · unfold downloadCompletion
    dsimp only
    split
    · split
      · split
        · exact .of_power rfl
        · unfold downloadComplete
          split <;> exact .of_power rfl
        · exact .of_same (reportFault_budget ..) rfl
        · exact .of_same (reportFault_budget ..) rfl
      · exact .of_power rfl
    · exact .of_power rfl
  · unfold passThroughCompletion
    split
    · exact .of_power rfl
    · exact .of_power rfl

theorem rampEnds_budget (k : Slot) (s : State) :
    BudgetKept s (rampGood k s) ∧ BudgetKept s (rampBad k s) ∧ BudgetKept s (rampDiscarded k s) := by
  have hclaim : ∀ (t : State) (f : PowerRecord → PowerRecord), (∀ r, (f r).claim = r.claim) →
      t.power.slots = amend s.power.slots k f → ClaimsShrink s t := by
    intro t f hf ht j
    left
    simp only [State.pow, ht]
    by_cases hj : j = k
    · subst hj; rw [look_amend_same, hf]
    · rw [look_amend_of_ne _ hj]
  refine ⟨?_, ?_, ?_⟩
  · exact .inl ((hclaim _ (fun r => { r with rampTimer := none, monitoring := true, filter := false }) (fun _ => rfl)
      rfl).trans (startRamp_shrinks _))
  · unfold rampBad
    split
    · exact reportFault_budget ..
    · exact .of_power rfl
  · exact .inl ((hclaim _ (fun r => { r with rampTimer := none }) (fun _ => rfl) rfl).trans (startRamp_shrinks _))

theorem accountSlot_budget (limit : Nat) (p : Addressed × WindowOutcome) (s : State) :
    BudgetKept s (accountSlot limit s p) := by
  unfold accountSlot
  split
  · split
    · unfold takeResponse
      dsimp only
      split <;> exact .of_power rfl
    · unfold takeMiss
      dsimp only
      split
      · exact .of_same (reportFault_budget ..) rfl
      · exact .of_power rfl
  · exact .of_power rfl

theorem accountSlot_settings (limit : Nat) (s : State) (p : Addressed × WindowOutcome) :
    (accountSlot limit s p).settings = s.settings := sets_of_fixtures (fixtures_accountSlot s limit p)

theorem accountSlots_budget (limit : Nat) (ps : List (Addressed × WindowOutcome)) (s : State) :
    BudgetKept s (ps.foldl (accountSlot limit) s) := by
  induction ps generalizing s with
  | nil => exact .of_power rfl
  | cons p ps ih =>
    exact (accountSlot_budget limit p s).trans (ih _)
      (foldl_same _ State.settings _ (accountSlot_settings limit) ps)

theorem putSettings_budget (r : RackSettings) (s : State) : BudgetKept s (putSettings r s) := by
  have hbudget : ∀ u, BudgetKept u (handBudget s.settings u) := by
    intro u; unfold handBudget; split
    · exact reevaluateClaims_budget u
    · exact .of_power rfl
  have hadmission : ∀ u, (handAdmission s.settings u).power = u.power
      ∧ (handAdmission s.settings u).settings = u.settings := by
    intro u; unfold handAdmission; split
    · exact ⟨eachSlot_same State.power _ (fun k v => admissionGate_power v k) u,
        eachSlot_same State.settings _ (fun k v => admissionGate_settings v k) u⟩
    · exact ⟨rfl, rfl⟩
  have htiming : ∀ u, (handTiming s.settings u).power = u.power
      ∧ (handTiming s.settings u).settings = u.settings := by
    intro u; unfold handTiming; split <;> exact ⟨rfl, rfl⟩
  have hkept : BudgetKept s (handBudget s.settings (s.modMgmt fun m => { m with settings := r.clamped })) :=
    .of_same (hbudget _) rfl
  exact (hkept.then_power (hadmission _).1 (hadmission _).2).then_power (htiming _).1 (htiming _).2

theorem resumeInsertion_power (k : Slot) (s : State) : (resumeInsertion k s).power = s.power := by
  unfold resumeInsertion; split
  · exact lineAsserted_power k s
  · rfl

theorem restartAll_power (s : State) : (restartAll s).power = (restartBlocks s).power := by
  rw [restartAll, eachSlot_same State.power _ fun k u => admissionGate_power u k,
    eachSlot_same State.power _ resumeInsertion_power]

theorem restartAll_shrinks (s : State) : ClaimsShrink s (restartAll s) := by
  intro k
  right
  rw [State.pow, restartAll_power]
  show (look (amendAll s.power.slots fun r => PowerRecord.reset r.powerGood) k).claim = none
  rw [look_amendAll]; rfl

theorem Served.budget {s t : State} (h : Served s t) : BudgetKept s t := by
  cases h with
  | modeSet k m => exact .of_power (setMode_power k m s)
  | stopped k _ =>
    exact (withdraw_budget k s).then_power rfl rfl
  | faultedCleared k _ => exact .of_power (by rw [clearFaulted, admissionGate_power]; rfl)
  | profilesPurged => exact .of_power (by rw [foldl_setProfile_frame])
  | settingsPut args r _ _ => exact putSettings_budget r s
  | restarted => exact .inl (restartAll_shrinks s)
  | _ => exact .of_power rfl

/-- Every change of a command keeps the claims or the budget. -/
theorem Effect.budget {s t : State} (h : Effect s t) : BudgetKept s t := by
  have hmodPow : ∀ k (f : PowerRecord → PowerRecord), (∀ r, (f r).claim = r.claim) → BudgetKept s (s.modPow k f) := by
    intro k f hf
    refine .inl fun j => .inl ?_
    by_cases hj : j = k
    · subst hj; rw [State.modPow_pow_same, hf]
    · rw [State.modPow_pow_of_ne _ hj]
  cases h with
  | served h => exact h.budget
  | lineAsserted k => exact .of_power (lineAsserted_power k s)
  | lineDeasserted k => exact .of_power (lineDeasserted_power k s)
  | inserted k d e _ => exact .of_power (cardArrived_power ..)
  | removed k d _ =>
    refine .of_same (withdraw_budget k _) ?_
    split
    · exact emptySlot_power ..
    · rfl
  | identCompleted g x _ _ o => exact .of_same (identCompletion_budget ..) rfl
  | completed g x _ _ c => exact .of_same (completeTransaction_budget ..) rfl
  | rampGood k _ _ => exact (rampEnds_budget k s).1
  | rampBad k _ _ => exact (rampEnds_budget k s).2.1
  | rampDiscarded k _ _ => exact (rampEnds_budget k s).2.2
  | powerGoodDeasserted k => exact hmodPow k _ fun _ => rfl
  | powerGoodAsserted k => exact hmodPow k _ fun _ => rfl
  | powerLost k _ c _ =>
    have hfilter := hmodPow k (fun r => { r with filter := false }) fun _ => rfl
    exact hfilter.trans (reportFault_budget ..) (reportFault_settings ..)
  | filterStopped k _ _ => exact hmodPow k _ fun _ => rfl
  | configTimedOut k d _ => exact .of_same (reportFault_budget ..) rfl
  | built _ => exact .of_power (runBuild_power s)
  | frameAccepted _ f g long _ => exact .of_power (acceptFrame_power f g long s)
  | frameServed f _ _ => exact .of_power (serveFrame_power f _)
  | accounted x _ _ _ => exact .of_same (accountSlots_budget ..) rfl
  | _ => exact .of_power rfl

theorem Posted.budget {s u t : State} (h : Posted s u t) : BudgetKept u t := by
  cases h <;> exact .of_power rfl

theorem coldReset_shrinks (s : State) : ClaimsShrink s (eachSlot allSlots redetect (coldState s)) := by
  have hpower : ∀ k u, (redetect k u).power = u.power := by
    intro k u; unfold redetect; split
    · exact lineAsserted_power k u
    · rfl
  intro k
  right
  rw [State.pow, eachSlot_same State.power _ hpower]
  show (look (amendAll s.power.slots fun r => PowerRecord.reset r.powerGood) k).claim = none
  rw [look_amendAll]; rfl

/-- Settles O15: a slot that gains a claim gains it by a grant, after which the sum of claims is within the budget. -/
theorem grantsStayWithinBudget : Obligations.GrantsStayWithinBudget := by
  intro s t _ hstep ⟨k, hnone, hsome⟩
  have hkept : BudgetKept s t := by
    obtain ht | ⟨c, rest, -, ht | ⟨u, he, hp⟩⟩ := step_cases hstep
    · exact ht ▸ .of_power rfl
    · exact ht ▸ .inl (coldReset_shrinks { s with pending := rest })
    · exact (he.budget : BudgetKept s u).trans hp.budget (sets_of_fixtures hp.fixtures_eq)
  obtain h | h := hkept
  · obtain hk | hk := h k <;> simp [hk, hnone] at hsome
  · exact h

end Sys2Proof.Machine
end

section
/-!
PROOF. What each event does to the slot records, said once for every slot: unchanged, or a move under the condition of its
rule.
-/
namespace Sys2Proof.Machine

variable {s : State}

theorem enterState_slot (j k : Slot) (x : SlotState) :
    (enterState k x s).slot j = if j = k then { s.slot k with state := x } else s.slot j := look_amend ..

theorem slot_of_slots {t : State} (h : t.slots = s.slots) (j : Slot) : t.slot j = s.slot j := by
  rw [State.slot, State.slot, h]

/-! ## Presence and the gate -/

theorem lineAsserted_slot (j k : Slot) : (lineAsserted k s).slot j = s.slot j
    ∨ (j = k ∧ (s.pres k).phase = .absent ∧ (s.slot j).state = .empty
        ∧ (lineAsserted k s).slot j = { s.slot j with state := .settling }) := by
  unfold lineAsserted
  split
  · rename_i hphase
    dsimp only
    split
    · rename_i hempty
      rw [enterState_slot]
      by_cases hj : j = k
      · subst hj
        exact .inr ⟨rfl, hphase, hempty, by rw [if_pos rfl]; rfl⟩
      · exact .inl (by rw [if_neg hj]; rfl)
    · exact .inl rfl
  all_goals exact .inl rfl

theorem lineDeasserted_slot (j k : Slot) : (lineDeasserted k s).slot j = s.slot j
    ∨ (j = k ∧ (s.pres k).phase = .inserting ∧ (s.slot j).state = .settling
        ∧ (lineDeasserted k s).slot j = { s.slot j with state := .empty }) := by
  unfold lineDeasserted
  split
  · rename_i hphase
    dsimp only
    split
    · rename_i hsettling
      by_cases hj : j = k
      · subst hj
        exact .inr ⟨rfl, hphase, hsettling, State.modSlot_slot_same ..⟩
      · exact .inl (State.modSlot_slot_of_ne _ hj _)
    · exact .inl rfl
  all_goals exact .inl rfl

theorem enterIdentifying_slot (j k : Slot) : (enterIdentifying k s).slot j =
    if j = k then { s.slot k with state := .identifying } else s.slot j := enterState_slot j k _

theorem admissionGate_slot (j k : Slot) : (admissionGate k s).slot j = s.slot j
    ∨ (j = k ∧ (s.slot j).state = .present ∧ (s.slot j).mode = .auto
        ∧ (admissionGate k s).slot j = { s.slot j with state := .identifying }) := by
  obtain ⟨hp, hm, -, h⟩ | ⟨-, h⟩ := admissionGate_cases s k
  · rw [h, enterIdentifying_slot]
    by_cases hj : j = k
    · subst hj; exact .inr ⟨rfl, hp, hm, if_pos rfl⟩
    · exact .inl (if_neg hj)
  · exact .inl (by rw [h])

theorem admissionGate_slot_of_ne {j k : Slot} (h : j ≠ k) : (admissionGate k s).slot j = s.slot j :=
  (admissionGate_slot j k).resolve_right fun h' => h h'.1

/-- A run of the gate over the slots takes some of those in PRESENT to IDENTIFYING. -/
theorem admissionGates_slot (ks : List Slot) (j : Slot) : (eachSlot ks admissionGate s).slot j = s.slot j
    ∨ ((s.slot j).state = .present ∧ (s.slot j).mode = .auto
        ∧ (eachSlot ks admissionGate s).slot j = { s.slot j with state := .identifying }) := by
  induction ks generalizing s with
  | nil => exact .inl rfl
  | cons k ks ih =>
    have heach : eachSlot (k :: ks) admissionGate s = eachSlot ks admissionGate (admissionGate k s) := rfl
    rw [heach]
    obtain h | ⟨-, hp, hm, h⟩ := admissionGate_slot (s := s) j k <;>
      obtain h' | ⟨hp', hm', h'⟩ := ih (s := admissionGate k s) <;> rw [h] at h'
    · exact .inl h'
    · rw [h] at hp' hm'; exact .inr ⟨hp', hm', h'⟩
    · exact .inr ⟨hp, hm, h'⟩
    · rw [h] at hp'; cases hp'

/-- "Card arrived" moves the slot of the card alone (R31): to PRESENT from SETTLING, and on through the gate. -/
theorem cardArrived_slot (j k : Slot) (e : Epoch) : (cardArrived k e s).slot j = s.slot j
    ∨ (j = k ∧ (s.slot j).epoch = e
        ∧ (((s.slot j).state = .quarantined
            ∧ (cardArrived k e s).slot j = { s.slot j with epoch := (s.slot j).epoch + 1, cardPresent := true })
          ∨ ((s.slot j).state = .settling ∧ ∃ x, (x = .present ∨ x = .identifying)
            ∧ (cardArrived k e s).slot j =
                { s.slot j with epoch := (s.slot j).epoch + 1, cardPresent := true, state := x }))) := by
  unfold cardArrived
  by_cases hj : j = k
  · subst hj
    split
    · rename_i h
      obtain ⟨hstate, he⟩ := h
      have he : (s.slot j).epoch = e := by simpa [current] using he
      dsimp only
      split
      · rename_i hs
        obtain h | ⟨-, -, -, h⟩ := admissionGate_slot (j := j) (k := j) (s := enterState j .present
          ((s.modSlot j fun r => { r with epoch := r.epoch + 1, cardPresent := true }).modPres j fun r =>
            { r with auxSupply := true }))
        · refine .inr ⟨rfl, he, .inr ⟨hs, .present, .inl rfl, ?_⟩⟩
          rw [h, enterState_slot_same, State.modPres_slot, State.modSlot_slot_same]
        · refine .inr ⟨rfl, he, .inr ⟨hs, .identifying, .inr rfl, ?_⟩⟩
          rw [h, enterState_slot_same, State.modPres_slot, State.modSlot_slot_same]
      · rename_i hs
        refine .inr ⟨rfl, he, .inl ⟨hstate.resolve_left hs, ?_⟩⟩
        rw [State.modPres_slot, State.modSlot_slot_same]
    · exact .inl rfl
  · left
    split
    · dsimp only
      split
      · rw [admissionGate_slot_of_ne hj, enterState_slot_of_ne _ hj, State.modPres_slot,
          State.modSlot_slot_of_ne _ hj]
      · rw [State.modPres_slot, State.modSlot_slot_of_ne _ hj]
    · rfl

/-- The record of a slot whose card is gone, before its withdrawal (R34, R35). -/
theorem emptySlot_slot (j k : Slot) : (emptySlot k s).slot j =
    if j = k then
      (if (s.slot k).state = .quarantined then
        { s.slot k with cardPresent := false, identity := none, profileIndex := none }
      else
        { s.slot k with state := .empty, cardPresent := false, identity := none, profileIndex := none
                        parkReason := none, faultReason := none, cardCode := none })
    else s.slot j := by
  unfold emptySlot
  by_cases hj : j = k
  · subst hj
    rw [if_pos rfl]
    split
    · exact State.modSlot_slot_same ..
    · rw [enterState_slot_same, State.modSlot_slot_same]
  · rw [if_neg hj]
    split
    · exact State.modSlot_slot_of_ne _ hj _
    · rw [enterState_slot_of_ne _ hj, State.modSlot_slot_of_ne _ hj]

/-! ## Modes and clearing -/

theorem setMode_slot (j k : Slot) (m : Mode) : (setMode k m s).slot j = s.slot j
    ∨ (j = k ∧ ((setMode k m s).slot j = { s.slot j with mode := m }
        ∨ ((s.slot j).state = .present
          ∧ (setMode k m s).slot j = { s.slot j with mode := m, state := .identifying }))) := by
  unfold setMode
  dsimp only
  split
  · exact .inl rfl
  · by_cases hj : j = k
    · subst hj
      refine .inr ⟨rfl, ?_⟩
      split
      · obtain h | ⟨-, hp, -, h⟩ := admissionGate_slot (s := s.modSlot j fun r => { r with mode := m }) j j
        · left; rw [h, State.modSlot_slot_same]
        · rw [State.modSlot_slot_same] at hp h
          exact .inr ⟨hp, h⟩
      · left; rw [State.modSlot_slot_same]
    · left
      split
      · rw [admissionGate_slot_of_ne hj, State.modSlot_slot_of_ne _ hj]
      · rw [State.modSlot_slot_of_ne _ hj]

theorem clearFaulted_slot_of_ne {j k : Slot} (h : j ≠ k) : (clearFaulted k s).slot j = s.slot j := by
  rw [clearFaulted, admissionGate_slot_of_ne h, enterState_slot_of_ne _ h, State.modSlot_slot_of_ne _ h]

theorem clearFaulted_slot_same (k : Slot) : ∃ x, (x = .present ∨ x = .identifying)
    ∧ (clearFaulted k s).slot k =
      { s.slot k with state := x, faultReason := none, cardCode := none, profileIndex := none } := by
  unfold clearFaulted
  obtain h | ⟨-, -, -, h⟩ := admissionGate_slot (j := k) (k := k) (s := enterState k .present (s.modSlot k fun r =>
    { r with faultReason := none, cardCode := none, profileIndex := none }))
  · exact ⟨.present, .inl rfl, by rw [h, enterState_slot_same, State.modSlot_slot_same]⟩
  · exact ⟨.identifying, .inr rfl, by rw [h, enterState_slot_same, State.modSlot_slot_same]⟩

theorem clearQuarantined_slot (j k : Slot) : (clearQuarantined k s).slot j =
    if j = k then
      { s.slot k with state := clearedState s k, faultRun := 0, mode := .manual, faultReason := none, cardCode := none
                      profileIndex := none }
    else s.slot j := by
  unfold clearQuarantined
  rw [enterState_slot]
  by_cases hj : j = k
  · simp [hj]
  · simp [hj, State.modSlot_slot_of_ne _ hj]

theorem stopSlot_slot_same (k : Slot) : (stopSlot k s).slot k =
    { s.slot k with state := .present, mode := .manual, profileIndex := none, parkReason := none } := by
  rw [stopSlot, enterState_slot_same, State.modSlot_slot_same, withdraw_slot_same]

theorem stopSlot_slot_of_ne {j k : Slot} (h : j ≠ k) : PowerMove s (stopSlot k s) j := by
  have hs : (stopSlot k s).slot j = (withdraw k s).slot j := by
    rw [stopSlot, enterState_slot_of_ne _ h, State.modSlot_slot_of_ne _ h]
  have hw := withdraw_slot_of_ne (s := s) h
  unfold PowerMove at hw ⊢
  rwa [hs]

/-! ## Builds and swaps -/

/-- What a build makes of a slot: it stands, or stays in MAP_WAIT with a park reason, or enters MAP_PENDING (R135, R136). -/
def BuildMove (r r' : SlotRecord) : Prop :=
  r' = r ∨ (r.state = .mapWait ∧ ((∃ reason, (reason = .image ∨ reason = .cycle) ∧ r' = { r with parkReason := some reason })
    ∨ r' = { r with state := .mapPending, parkReason := none }))

theorem BuildMove.trans {r r' r'' : SlotRecord} (h : BuildMove r r') (h' : BuildMove r' r'') : BuildMove r r'' := by
  obtain rfl | ⟨hw, ⟨p, hp, rfl⟩ | rfl⟩ := h
  · exact h'
  · obtain rfl | ⟨-, ⟨q, hq, rfl⟩ | rfl⟩ := h'
    · exact .inr ⟨hw, .inl ⟨p, hp, rfl⟩⟩
    · exact .inr ⟨hw, .inl ⟨q, hq, rfl⟩⟩
    · exact .inr ⟨hw, .inr rfl⟩
  · obtain rfl | ⟨hw', -⟩ := h'
    · exact .inr ⟨hw, .inr rfl⟩
    · cases hw'

/-- A try parks for IMAGE or for CYCLE alone (R115). -/
theorem tryPlace_parked {es : List MapEntry} {k : Slot} {reason : ParkReason}
    (h : tryPlace s es k = .parked reason) : reason = .image ∨ reason = .cycle := by
  unfold tryPlace at h
  dsimp only at h
  split at h
  · cases h; exact .inl rfl
  · split at h
    · cases h; exact .inl rfl
    · split at h
      · cases h
      · cases h; exact .inr rfl

theorem reportPlaced_slot (j k : Slot) : BuildMove (s.slot j) ((reportPlaced k s).slot j) := by
  unfold reportPlaced
  split
  · rename_i h
    by_cases hj : j = k
    · subst hj
      exact .inr ⟨h, .inr (by rw [enterState_slot_same, State.modSlot_slot_same])⟩
    · exact .inl (by rw [enterState_slot_of_ne _ hj, State.modSlot_slot_of_ne _ hj])
  · exact .inl rfl

theorem reportParked_slot (j k : Slot) {reason : ParkReason} (hr : reason = .image ∨ reason = .cycle) :
    BuildMove (s.slot j) ((reportParked k reason s).slot j) := by
  unfold reportParked
  split
  · rename_i h
    by_cases hj : j = k
    · subst hj
      exact .inr ⟨h, .inl ⟨reason, hr, State.modSlot_slot_same ..⟩⟩
    · exact .inl (State.modSlot_slot_of_ne _ hj _)
  · exact .inl rfl

theorem retryParked_slot (b : BuildState) (k j : Slot) :
    BuildMove (b.state.slot j) ((retryParked b k).state.slot j) := by
  unfold retryParked
  split
  · exact reportPlaced_slot (s := b.state.modMaps _) j k
  · rename_i h; exact reportParked_slot j k (tryPlace_parked h)

theorem applyAdd_slot (b : BuildState) (k j : Slot) : BuildMove (b.state.slot j) ((applyAdd b k).state.slot j) := by
  unfold applyAdd
  split
  · exact reportPlaced_slot j k
  · rename_i h; exact reportParked_slot (s := b.state.modMaps _) j k (tryPlace_parked h)

theorem foldl_buildMove (act : BuildState → Slot → BuildState)
    (hact : ∀ b k j, BuildMove (b.state.slot j) ((act b k).state.slot j)) (ks : List Slot) (b : BuildState) (j : Slot) :
    BuildMove (b.state.slot j) ((ks.foldl act b).state.slot j) := by
  induction ks generalizing b with
  | nil => exact .inl rfl
  | cons k ks ih => exact (hact b k j).trans (ih (act b k))

theorem offerMap_slots (removed : List Slot) (b : BuildState) : (offerMap removed b).slots = b.state.slots := by
  unfold offerMap; dsimp only; split <;> rfl

theorem runBuild_slot (j : Slot) : BuildMove (s.slot j) ((runBuild s).slot j) := by
  rw [runBuild, slot_of_slots (offerMap_slots _ _)]
  exact (foldl_buildMove retryParked retryParked_slot _ _ j).trans (foldl_buildMove applyAdd applyAdd_slot _ _ j)

/-- What a swap makes of a slot: it stands, or it enters RUNNING from MAP_PENDING with an entry of its epoch (R139). -/
def SwapMove (m : ImageMap) (k : Slot) (r r' : SlotRecord) : Prop :=
  r' = r ∨ (r.state = .mapPending ∧ (∃ e, entryOf m.entries k = some e ∧ e.epoch = r.epoch)
    ∧ r' = { r with state := .running, cleanRun := 0 })

theorem entryOf_slot {es : List MapEntry} {k : Slot} {e : MapEntry} (h : entryOf es k = some e) : e.slot = k := by
  simpa using List.find?_some h

theorem reportSwapped_slot (j k : Slot) :
    SwapMove s.maps.active j (s.slot j) ((reportSwapped k s).slot j) := by
  unfold reportSwapped
  split
  · rename_i e he
    have hek := entryOf_slot he
    split
    · rename_i h
      obtain ⟨hp, hcur⟩ := h
      have hcur : (s.slot k).epoch = e.epoch := by simpa [current] using hcur
      unfold enterRunning
      rw [hek]
      by_cases hj : j = k
      · subst hj
        exact .inr ⟨hp, ⟨e, he, hcur.symm⟩, by rw [enterState_slot_same, State.modSlot_slot_same]; rfl⟩
      · exact .inl (by rw [enterState_slot_of_ne _ hj, State.modSlot_slot_of_ne _ hj]; rfl)
    · exact .inl rfl
  · exact .inl rfl

theorem reportSwapped_maps (k : Slot) (u : State) : (reportSwapped k u).maps = u.maps := by
  unfold reportSwapped
  split
  · split <;> rfl
  · rfl

theorem swapMove_eachSlot (ks : List Slot) (j : Slot) :
    SwapMove s.maps.active j (s.slot j) ((eachSlot ks reportSwapped s).slot j) := by
  induction ks generalizing s with
  | nil => exact .inl rfl
  | cons k ks ih =>
    have heach : eachSlot (k :: ks) reportSwapped s = eachSlot ks reportSwapped (reportSwapped k s) := rfl
    have hrest := ih (s := reportSwapped k s)
    rw [heach]
    rw [reportSwapped_maps] at hrest
    obtain h | ⟨hp, he, h⟩ := reportSwapped_slot (s := s) j k <;> rw [h] at hrest
    · exact hrest
    · obtain h' | ⟨hp', -⟩ := hrest
      · exact .inr ⟨hp, he, h'⟩
      · cases hp'

theorem swapMaps_slot (j : Slot) : (swapMaps s).slot j = s.slot j
    ∨ ∃ m, s.maps.offered = some m ∧ SwapMove m j (s.slot j) ((swapMaps s).slot j) := by
  cases hm : s.maps.offered with
  | none => exact .inl (by simp only [swapMaps, hm])
  | some m =>
    have hmove := swapMove_eachSlot (s := s.modMaps fun b => { b with active := m, offered := none }) allSlots j
    simp only [swapMaps, hm]
    rw [slot_of_slots (postNotice_slots _ _)]
    exact .inr ⟨m, rfl, hmove⟩

theorem copyOutput_slots (image : List Byte) (s : State) (e : MapEntry) : (copyOutput image e s).slots = s.slots := by
  unfold copyOutput; split <;> rfl

theorem serveFrame_slots (f : HeldFrame) :
    (serveFrame f s).slots = if f.frameClass = .offered then (swapMaps s).slots else s.slots := by
  unfold serveFrame
  dsimp only [startExchange, State.modCycle_slots]
  rw [foldl_same _ State.slots (fun s e => copyOutput f.output e s) (copyOutput_slots f.output)]
  cases f.frameClass <;> rfl

theorem frameTaken_slots (f : HeldFrame) (g : Nat) (long : Bool) : (frameTaken f g long s).slots = s.slots := by
  unfold frameTaken
  cases long <;> split <;> rfl

theorem frameTaken_maps (f : HeldFrame) (g : Nat) (long : Bool) : (frameTaken f g long s).maps = s.maps := by
  unfold frameTaken
  cases long <;> split <;> rfl

theorem serveFrame_slot (f : HeldFrame) (j : Slot) : (serveFrame f s).slot j = s.slot j
    ∨ ∃ m, s.maps.offered = some m ∧ SwapMove m j (s.slot j) ((serveFrame f s).slot j) := by
  have h := serveFrame_slots (s := s) f
  split at h <;> rw [slot_of_slots h]
  · exact swapMaps_slot j
  · exact .inl rfl

theorem acceptFrame_slot (f : HeldFrame) (g : Nat) (long : Bool) (j : Slot) :
    (acceptFrame f g long s).slot j = s.slot j
      ∨ ∃ m, s.maps.offered = some m ∧ SwapMove m j (s.slot j) ((acceptFrame f g long s).slot j) := by
  rw [acceptFrame_eq]
  split
  · have h := serveFrame_slot (s := frameTaken f g long s) f j
    rwa [frameTaken_maps, slot_of_slots (frameTaken_slots f g long)] at h
  · exact .inl (slot_of_slots (frameTaken_slots f g long) j)

/-! ## Accounting -/

/-- An accounted slot that stays in RUNNING keeps all but its counts (R11, R155). -/
def CountMove (r r' : SlotRecord) : Prop :=
  r' = r ∨ (r.state = .running ∧ (r' = countAnswered r ∨ r' = { r with cleanRun := 0 }))

theorem takeResponse_slot (j k : Slot) (data : List Byte) (diag : Bool) : (takeResponse k data diag s).slot j =
    if j = k then countAnswered (s.slot k) else s.slot j := by
  unfold takeResponse
  dsimp only
  rw [State.modSlot_slot]
  cases (diag && !(s.cyc k).cardDiag) <;> split <;> rfl

/-- The state in which a miss is counted and not yet reported (R156). -/
def missCounted (k : Slot) (s : State) : State :=
  (s.modCyc k fun c => { c with missCount := c.missCount + 1, inputValid := false }).modSlot k fun r =>
    { r with cleanRun := 0 }

theorem missCounted_slot (j k : Slot) : (missCounted k s).slot j =
    if j = k then { s.slot k with cleanRun := 0 } else s.slot j := State.modSlot_slot ..

theorem takeMiss_eq (limit : Nat) (k : Slot) (e : Epoch) : takeMiss limit k e s =
    if limit ≤ (s.cyc k).missCount + 1 then reportFault k e .responseLost none (missCounted k s)
    else missCounted k s := by
  have hcount : ((missCounted k s).cyc k).missCount = (s.cyc k).missCount + 1 := by
    show ((s.modCyc k _).cyc k).missCount = _
    rw [State.modCyc_cyc_same]
  rw [← hcount]
  rfl

/-- What the accounting of one slot can do (R155, R156): nothing, a count, or fault entry with RESPONSE_LOST. -/
theorem accountSlot_cases (limit : Nat) (a : Addressed) (o : WindowOutcome) :
    accountSlot limit s (a, o) = s
      ∨ ((s.slot a.slot).state = .running ∧ (s.slot a.slot).epoch = a.epoch
        ∧ ((∃ data diag, o = .good data diag ∧ accountSlot limit s (a, o) = takeResponse a.slot data diag s)
          ∨ (o = .miss ∧ (s.cyc a.slot).missCount + 1 < limit
            ∧ accountSlot limit s (a, o) = missCounted a.slot s)
          ∨ (o = .miss ∧ limit ≤ (s.cyc a.slot).missCount + 1
            ∧ accountSlot limit s (a, o) = faultEntry a.slot .responseLost none (missCounted a.slot s)))) := by
  unfold accountSlot
  split
  · rename_i h
    obtain ⟨hrun, hcur⟩ := h
    have hepoch : (s.slot a.slot).epoch = a.epoch := by simpa [current] using hcur
    refine .inr ⟨hrun, hepoch, ?_⟩
    have hrun : (s.slot a.slot).state = .running := hrun
    cases o with
    | good data diag => exact .inl ⟨data, diag, rfl, rfl⟩
    | miss =>
      dsimp only
      rw [takeMiss_eq]
      split
      · rename_i hl
        refine .inr (.inr ⟨rfl, hl, ?_⟩)
        obtain ⟨-, -, h⟩ | ⟨hno, -⟩ := reportFault_cases (missCounted a.slot s) a.slot a.epoch .responseLost none
        · exact h
        · have hslot : (missCounted a.slot s).slot a.slot = { s.slot a.slot with cleanRun := 0 } := by
            rw [missCounted_slot, if_pos rfl]
          rw [hslot] at hno
          simp [hrun, hepoch, FaultReason.takenIn] at hno
      · rename_i hl
        exact .inr (.inl ⟨rfl, by omega, rfl⟩)
  · exact .inl rfl

end Sys2Proof.Machine
end

section
/-!
PROOF. How a service transaction ends: the outcomes of an IDENT READ (R42 to R45, R51) and of a download's transaction
(R101 to R103), each named once with what it requires.
-/
namespace Sys2Proof.Machine

/-- A good read is stored and the attempt is over (R44). -/
def identityTaken (k : Slot) (c : IdentityRecord) (s : State) : State :=
  (s.modSlot k fun r => { r with identity := some c }).setAttempt k none

theorem identityTaken_slot (j k : Slot) (c : IdentityRecord) (s : State) : (identityTaken k c s).slot j =
    if j = k then { s.slot k with identity := some c } else s.slot j := by
  rw [identityTaken, State.setAttempt_slot, State.modSlot_slot]

/-- The matched profile's index stands beside the identity, before the claim is requested (R51). -/
def profileMatched (k : Slot) (c : IdentityRecord) (p : ProfileIndex) (s : State) : State :=
  (identityTaken k c s).modSlot k fun r => { r with profileIndex := some p }

theorem profileMatched_slot (j k : Slot) (c : IdentityRecord) (p : ProfileIndex) (s : State) :
    (profileMatched k c p s).slot j =
      if j = k then { s.slot k with identity := some c, profileIndex := some p } else s.slot j := by
  rw [profileMatched, State.modSlot_slot]
  by_cases hj : j = k
  · rw [if_pos hj, if_pos hj, identityTaken_slot, if_pos rfl]
  · rw [if_neg hj, if_neg hj, identityTaken_slot, if_neg hj]

/-- How the completion of an IDENT READ ends (R43 to R45, R51). -/
inductive IdentEnd (x : Transaction) (o : SegmentOutcome) (s : State) : State → Prop
  | discarded (h : ∀ a, s.attempt x.slot = some a → a.epoch ≠ x.epoch) : IdentEnd x o s s
  | retried (a : Attempt) (ha : s.attempt x.slot = some a) (he : a.epoch = x.epoch) (ho : goodRead o = none)
      (hn : a.number < 3) :
      IdentEnd x o s (queueTransaction (identRead x.slot a.epoch)
        (s.setAttempt x.slot (some { a with number := a.number + 1 })))
  | timedOut (a : Attempt) (ha : s.attempt x.slot = some a) (he : a.epoch = x.epoch) (ho : goodRead o = none)
      (hn : 3 ≤ a.number) :
      IdentEnd x o s (reportFault x.slot a.epoch .identTimeout none (s.setAttempt x.slot none))
  | faulted (a : Attempt) (ha : s.attempt x.slot = some a) (he : a.epoch = x.epoch) (c : IdentityRecord)
      (ho : goodRead o = some c) (reason : FaultReason)
      (hr : (c.format ≠ 1 ∧ reason = .identFormat)
        ∨ (c.format = 1 ∧ evaluateIdentity s.matcher x.slot c = .reject ∧ reason = .noMatch)
        ∨ (c.format = 1 ∧ ∃ p, evaluateIdentity s.matcher x.slot c = .assign p ∧ (s.profile p).valid = false
          ∧ reason = .profileAbsent)) :
      IdentEnd x o s (reportFault x.slot x.epoch reason none (identityTaken x.slot c s))
  | matched (a : Attempt) (ha : s.attempt x.slot = some a) (he : a.epoch = x.epoch) (c : IdentityRecord)
      (ho : goodRead o = some c) (hf : c.format = 1) (p : ProfileIndex)
      (hp : evaluateIdentity s.matcher x.slot c = .assign p) (hv : (s.profile p).valid = true)
      (hx : (s.slot x.slot).state = .identifying) (hc : (s.slot x.slot).epoch = x.epoch) :
      IdentEnd x o s (requestClaim x.slot (profileMatched x.slot c p s))
  | stale (a : Attempt) (ha : s.attempt x.slot = some a) (he : a.epoch = x.epoch) (c : IdentityRecord)
      (h : ¬ ((s.slot x.slot).state = .identifying ∧ (s.slot x.slot).epoch = x.epoch)) :
      IdentEnd x o s (identityTaken x.slot c s)

theorem identCompletion_end (x : Transaction) (o : SegmentOutcome) (s : State) :
    IdentEnd x o s (identCompletion x o s) := by
  unfold identCompletion
  split
  · rename_i a ha
    split
    · rename_i he
      split
      · rename_i c hc
        have hslot : (identityTaken x.slot c s).slot x.slot = { s.slot x.slot with identity := some c } := by
          rw [identityTaken_slot, if_pos rfl]
        unfold takeIdentity
        dsimp only
        split
        · rename_i hf
          unfold actOnMatch
          split
          · rename_i hd; exact .faulted a ha he c hc _ (.inr (.inl ⟨hf, hd, rfl⟩))
          · rename_i p hd
            split
            · rename_i hv
              split
              · rename_i hcur
                obtain ⟨hx, hcur⟩ : ((identityTaken x.slot c s).slot x.slot).state = .identifying
                    ∧ current (identityTaken x.slot c s) x.slot x.epoch = true := hcur
                refine .matched a ha he c hc hf p hd hv (by rw [hslot] at hx; exact hx) ?_
                rw [current, hslot] at hcur
                exact eq_of_beq hcur
              · rename_i hcur
                refine .stale a ha he c fun h => hcur (show ((identityTaken x.slot c s).slot x.slot).state = .identifying
                    ∧ current (identityTaken x.slot c s) x.slot x.epoch = true from ?_)
                rw [current, hslot]
                exact ⟨h.1, by simp [h.2]⟩
            · rename_i hv
              exact .faulted a ha he c hc _ (.inr (.inr ⟨hf, p, hd, by simpa using hv, rfl⟩))
        · rename_i hf; exact .faulted a ha he c hc _ (.inl ⟨hf, rfl⟩)
      · rename_i ho
        unfold failAttempt
        split
        · rename_i hn; exact .retried a ha he ho hn
        · rename_i hn; exact .timedOut a ha he ho (Nat.le_of_not_lt hn)
    · rename_i he
      exact .discarded fun b hb => by rw [ha] at hb; cases hb; exact he
  · rename_i ha
    exact .discarded fun b hb => by rw [ha] at hb; cases hb

/-- How the completion of a download's transaction ends (R101 to R103). -/
inductive DownloadEnd (x : Transaction) (c : Completion) (s : State) : State → Prop
  | discarded (h : ∀ d, s.download x.slot = some d → d.awaits x = false) : DownloadEnd x c s s
  | wentOn (d : Download) (hd : s.download x.slot = some d) (hw : d.awaits x = true) (data : List Byte)
      (hc : c = .accepted data) (n : Nat) (hn : d.step = .record n) :
      DownloadEnd x c s (queueTransaction (downloadNext x.slot d.epoch (s.profile d.profile) (n + 1)).2
        (s.setDownload x.slot (some { d with step := (downloadNext x.slot d.epoch (s.profile d.profile) (n + 1)).1 })))
  | complete (d : Download) (hd : s.download x.slot = some d) (hw : d.awaits x = true) (data : List Byte)
      (hc : c = .accepted data) (hn : d.step = .commit) (hx : (s.slot x.slot).state = .configuring)
      (he : (s.slot x.slot).epoch = d.epoch) :
      DownloadEnd x c s ((enterState x.slot .mapWait (s.setDownload x.slot none)).modMaps fun b =>
        { b with changes := b.changes ++ [.add x.slot] })
  | stale (d : Download) (hd : s.download x.slot = some d) (hw : d.awaits x = true)
      (h : ¬ ((s.slot x.slot).state = .configuring ∧ (s.slot x.slot).epoch = d.epoch)) :
      DownloadEnd x c s (s.setDownload x.slot none)
  | failed (d : Download) (hd : s.download x.slot = some d) (hw : d.awaits x = true) (reason : FaultReason)
      (code : Option Byte)
      (hr : (∃ b, c = .refused b ∧ reason = .cardRefused ∧ code = some b)
        ∨ (c = .timeout ∧ reason = .cardTimeout ∧ code = none)) :
      DownloadEnd x c s (reportFault x.slot d.epoch reason code (s.setDownload x.slot none))

theorem downloadCompletion_end (x : Transaction) (c : Completion) (s : State) :
    DownloadEnd x c s (downloadCompletion x c s) := by
  unfold downloadCompletion
  dsimp only
  split
  · rename_i d hd
    split
    · rename_i hw
      split
      · rename_i data n hn; exact .wentOn d hd hw data rfl n hn
      · rename_i data hn
        unfold downloadComplete
        split
        · rename_i h; exact .complete d hd hw data rfl hn h.1 (eq_of_beq h.2)
        · rename_i h
          exact .stale d hd hw fun h' => h ⟨h'.1, show ((s.slot x.slot).epoch == d.epoch) = true by simp [h'.2]⟩
      · rename_i b; exact .failed d hd hw _ _ (.inl ⟨b, rfl, rfl, rfl⟩)
      · exact .failed d hd hw _ _ (.inr ⟨rfl, rfl, rfl⟩)
    · rename_i hw
      exact .discarded fun e he => by rw [hd] at he; cases he; simpa using hw
  · rename_i hd
    exact .discarded fun e he => by rw [hd] at he; cases he

theorem completeTransaction_of_sequencer {x : Transaction} (c : Completion) (s : State) (h : x.origin = .sequencer) :
    completeTransaction x c s = downloadCompletion x c s := by
  simp only [completeTransaction, h]

theorem completeTransaction_of_passThrough {x : Transaction} (c : Completion) (s : State) (h : x.origin = .passThrough) :
    completeTransaction x c s = passThroughCompletion x c s := by
  simp only [completeTransaction, h]

end Sys2Proof.Machine
end

section
/-!
PROOF. The Power Controller against the slot states (R4, R73, R76, R79, R80, R83): each operation keeps the power records
of the slots it is about in line with their states, and so does every step.
-/
namespace Sys2Proof.Machine

/-! ## Soundness of one slot -/

/-- What the Power Controller does for a slot, by its state (R4). -/
inductive PowerKind where
  | off | waiting | queued | ramping | fed
  deriving DecidableEq

/-- The part of bring-up in which a state stands for the Power Controller. -/
def SlotState.powerKind : SlotState → PowerKind
  | .powerWait => .waiting
  | .rampQueued => .queued
  | .ramping => .ramping
  | .configuring | .mapWait | .mapPending | .running => .fed
  | _ => .off

/-- The power record and the lists for one slot whose state and epoch are given: the nine items of `PowerSound`. -/
def PowerFor (p : PowerController) (k : Slot) (x : SlotState) (e : Epoch) : Prop :=
  (look p.slots k).mainSupply = x.mainOn ∧ (look p.slots k).claim.isSome = x.holdsClaim
    ∧ (look p.slots k).monitoring = x.monitored ∧ (look p.slots k).rampTimer.isSome = (x == .ramping)
    ∧ ((look p.slots k).filter = true → (look p.slots k).monitoring = true)
    ∧ (∀ c, (look p.slots k).claim = some c → c.epoch = e)
    ∧ (k ∈ p.waitList ↔ x = .powerWait) ∧ (k ∈ p.rampQueue ↔ x = .rampQueued) ∧ (p.arbiter = some k ↔ x = .ramping)

/-- The power record of a slot agrees with its state. -/
def PowerSlot (s : State) (k : Slot) : Prop := PowerFor s.power k (s.slot k).state (s.slot k).epoch

theorem powerSound_iff (s : State) : PowerSound s ↔ (∀ k, PowerSlot s k) ∧ s.power.waitList.Nodup
    ∧ s.power.rampQueue.Nodup ∧ (s.power.arbiter = none → s.power.rampQueue = []) := Iff.rfl

/-- What a state stands for to the Power Controller is fixed by its part of bring-up. -/
theorem SlotState.of_powerKind {x y : SlotState} (h : x.powerKind = y.powerKind) :
    x.mainOn = y.mainOn ∧ x.holdsClaim = y.holdsClaim ∧ x.monitored = y.monitored
      ∧ (x == .ramping) = (y == .ramping) ∧ (x = .powerWait ↔ y = .powerWait)
      ∧ (x = .rampQueued ↔ y = .rampQueued) ∧ (x = .ramping ↔ y = .ramping) := by
  revert h
  cases x <;> cases y <;> decide

theorem SlotState.holdsClaim_of_off {x : SlotState} (h : x.powerKind = .off) : x.holdsClaim = false := by
  revert h
  cases x <;> decide

theorem PowerFor.congr_kind {p : PowerController} {k : Slot} {x y : SlotState} {e : Epoch} (h : PowerFor p k x e)
    (hk : x.powerKind = y.powerKind) : PowerFor p k y e := by
  obtain ⟨hmain, hclaim, hmon, htimer, hwait, hqueued, hramping⟩ := SlotState.of_powerKind hk
  unfold PowerFor at h ⊢
  rwa [hmain, hclaim, hmon, htimer, hwait, hqueued, hramping] at h

/-- The epoch matters only to a slot that holds a claim. -/
theorem PowerFor.congr_epoch {p : PowerController} {k : Slot} {x : SlotState} {e e' : Epoch} (h : PowerFor p k x e)
    (he : x.powerKind = .off ∨ e' = e) : PowerFor p k x e' := by
  obtain hoff | rfl := he
  · obtain ⟨hmain, hclaim, hmon, htimer, hfilter, -, hlists⟩ := h
    refine ⟨hmain, hclaim, hmon, htimer, hfilter, fun c hc => ?_, hlists⟩
    rw [hc, SlotState.holdsClaim_of_off hoff] at hclaim
    cases hclaim
  · exact h

/-- A slot that the Power Controller holds nothing for agrees with every state in which it has nothing to do. -/
theorem powerFor_off {p : PowerController} {k : Slot} {x : SlotState} (e : Epoch) {g : Bool}
    (hpow : look p.slots k = PowerRecord.reset g) (hw : k ∉ p.waitList) (hq : k ∉ p.rampQueue)
    (ha : p.arbiter ≠ some k) (hx : x.powerKind = .off) : PowerFor p k x e := by
  have hempty : PowerFor p k .empty e := by
    unfold PowerFor
    rw [hpow]
    simp [PowerRecord.reset, SlotState.mainOn, SlotState.holdsClaim, SlotState.monitored, hw, hq, ha]
  exact hempty.congr_kind hx.symm

/-- The states and epochs of the slots may change as long as the Power Controller has the same to do. -/
theorem powerSound_congr {s t : State} (h : PowerSound s) (hp : t.power = s.power)
    (hs : ∀ k, (t.slot k).state.powerKind = (s.slot k).state.powerKind
      ∧ ((s.slot k).state.powerKind = .off ∨ (t.slot k).epoch = (s.slot k).epoch)) : PowerSound t := by
  rw [powerSound_iff] at h ⊢
  obtain ⟨hslots, hlists⟩ := h
  refine ⟨fun k => ?_, hp ▸ hlists⟩
  obtain ⟨hkind, hepoch⟩ := hs k
  unfold PowerSlot
  rw [hp]
  exact ((hslots k).congr_epoch hepoch).congr_kind hkind.symm

theorem powerSound_of_slots {s t : State} (h : PowerSound s) (hp : t.power = s.power) (hs : t.slots = s.slots) :
    PowerSound t :=
  powerSound_congr h hp fun k => by rw [slot_of_slots hs k]; exact ⟨rfl, .inr rfl⟩

/-- An event that moves one slot between states in which the Power Controller has the same to do. -/
theorem powerSound_of_move {s t : State} (h : PowerSound s) (hp : t.power = s.power) (k : Slot)
    (hothers : ∀ j, j ≠ k → t.slot j = s.slot j) (hkind : (t.slot k).state.powerKind = (s.slot k).state.powerKind)
    (hepoch : (s.slot k).state.powerKind = .off ∨ (t.slot k).epoch = (s.slot k).epoch) : PowerSound t :=
  powerSound_congr h hp fun j => by
    by_cases hj : j = k
    · subst hj; exact ⟨hkind, hepoch⟩
    · rw [hothers j hj]; exact ⟨rfl, .inr rfl⟩

/-! ## Soundness of some of the slots -/

/-- The slots of a set agree with their power records, and the lists hold slots of the set alone. -/
structure PowerOn (S : Slot → Prop) (s : State) : Prop where
  slots : ∀ k, S k → PowerSlot s k
  waits : ∀ k ∈ s.power.waitList, S k
  queued : ∀ k ∈ s.power.rampQueue, S k
  arbiter : ∀ k, s.power.arbiter = some k → S k
  waitNodup : s.power.waitList.Nodup
  queueNodup : s.power.rampQueue.Nodup

theorem PowerOn.waitState {S : Slot → Prop} {s : State} (h : PowerOn S s) {k : Slot} (hk : k ∈ s.power.waitList) :
    (s.slot k).state = .powerWait := by
  obtain ⟨-, -, -, -, -, -, hw, -, -⟩ := h.slots k (h.waits k hk)
  exact hw.mp hk

theorem PowerOn.queueState {S : Slot → Prop} {s : State} (h : PowerOn S s) {k : Slot} (hk : k ∈ s.power.rampQueue) :
    (s.slot k).state = .rampQueued := by
  obtain ⟨-, -, -, -, -, -, -, hq, -⟩ := h.slots k (h.queued k hk)
  exact hq.mp hk

theorem PowerSound.powerOn {s : State} (h : PowerSound s) : PowerOn (fun _ => True) s := by
  obtain ⟨hslots, hw, hq, -⟩ := (powerSound_iff s).mp h
  exact ⟨fun k _ => hslots k, fun _ _ => trivial, fun _ _ => trivial, fun _ _ => trivial, hw, hq⟩

theorem PowerSound.waitState {s : State} (h : PowerSound s) {k : Slot} (hk : k ∈ s.power.waitList) :
    (s.slot k).state = .powerWait := h.powerOn.waitState hk

theorem PowerSound.queueState {s : State} (h : PowerSound s) {k : Slot} (hk : k ∈ s.power.rampQueue) :
    (s.slot k).state = .rampQueued := h.powerOn.queueState hk

/-- What another slot's power record and places may do for a slot to stay in line with it. -/
theorem PowerSlot.of_same {s t : State} {j : Slot} (h : PowerSlot s j) (hpow : t.pow j = s.pow j)
    (hslot : t.slot j = s.slot j) (hw : j ∈ t.power.waitList ↔ j ∈ s.power.waitList)
    (hq : j ∈ t.power.rampQueue ↔ j ∈ s.power.rampQueue) (ha : t.power.arbiter = some j ↔ s.power.arbiter = some j) :
    PowerSlot t j := by
  unfold PowerSlot PowerFor at h ⊢
  have hpow : look t.power.slots j = look s.power.slots j := hpow
  rw [hpow, hslot, hw, hq, ha]
  exact h

/-! ## Ramps and grants -/

theorem startRamp_powerOn {S : Slot → Prop} {s : State} (h : PowerOn S s) :
    PowerOn S (startRamp s) ∧ ((startRamp s).power.arbiter = none → (startRamp s).power.rampQueue = []) := by
  obtain ⟨k, rest, hfree, hqueue, hs⟩ | ⟨hstays, hs⟩ := startRamp_cases s
  · have hk : k ∈ s.power.rampQueue := by rw [hqueue]; exact List.mem_cons_self
    have hnodup : k ∉ rest ∧ rest.Nodup := by simpa [hqueue] using h.queueNodup
    have hstate := h.queueState hk
    have hpowk : (startRamp s).pow k =
        { s.pow k with mainSupply := true, rampTimer := some (s.profileOf k).rampTime } := by
      rw [hs]; exact look_amend_same ..
    have hslotk : (startRamp s).slot k = { s.slot k with state := .ramping } := by
      rw [hs, enterState_slot_same]; rfl
    have hwait : (startRamp s).power.waitList = s.power.waitList := by rw [hs]; rfl
    have hq : (startRamp s).power.rampQueue = rest := by rw [hs]; rfl
    have ha : (startRamp s).power.arbiter = some k := by rw [hs]; rfl
    refine ⟨⟨fun j hj => ?_, ?_, ?_, ?_, ?_, ?_⟩, ?_⟩
    · by_cases hjk : j = k
      · subst hjk
        obtain ⟨-, hclaim, hmon, -, hfilter, hepoch, hw, -, -⟩ := h.slots j hj
        have hpowk : look (startRamp s).power.slots j = _ := hpowk
        unfold PowerSlot PowerFor
        rw [hpowk, hslotk, hwait, hq, ha]
        rw [hstate] at hclaim hmon hw
        exact ⟨rfl, hclaim, hmon, rfl, hfilter, hepoch, by simpa using hw, by simp [hnodup], by simp⟩
      · refine (h.slots j hj).of_same ?_ ?_ (by rw [hwait]) ?_ ?_
        · rw [hs]; exact look_amend_of_ne _ hjk _
        · rw [hs, enterState_slot_of_ne _ hjk]; rfl
        · simp [hq, hqueue, hjk]
        · simp [ha, hfree, Ne.symm hjk]
    · rw [hwait]; exact h.waits
    · rw [hq]; exact fun j hj => h.queued j (by rw [hqueue]; exact List.mem_cons_of_mem k hj)
    · rw [ha]; intro j hj; cases hj; exact h.queued k hk
    · rw [hwait]; exact h.waitNodup
    · rw [hq]; exact hnodup.2
    · rw [ha]; intro hn; cases hn
  · rw [hs]
    refine ⟨h, fun hn => ?_⟩
    simpa [hn] using hstays

theorem grantClaim_pow (j k : Slot) (s : State) : (grantClaim k s).pow j =
    if j = k then { s.pow k with claim := some ⟨(s.profileOf k).powerDraw, (s.slot k).epoch⟩ } else s.pow j :=
  look_amend ..

/-- A slot with nothing claimed yet, in IDENTIFYING or in POWER_WAIT, is granted its claim (R75, R77). -/
theorem grantClaim_powerOn {S : Slot → Prop} {s : State} {k : Slot} (h : PowerOn S s) (hk : S k)
    (hx : (s.slot k).state = .identifying ∨ (s.slot k).state = .powerWait) : PowerOn S (grantClaim k s) := by
  obtain ⟨hmain, -, hmon, htimer, hfilter, -, -, hqueue, harb⟩ := h.slots k hk
  have hnq : k ∉ s.power.rampQueue := by obtain hx | hx := hx <;> simp [hqueue, hx]
  have hwait : (grantClaim k s).power.waitList = s.power.waitList.filter (· != k) := rfl
  have hq : (grantClaim k s).power.rampQueue = s.power.rampQueue ++ [k] := rfl
  have ha : (grantClaim k s).power.arbiter = s.power.arbiter := rfl
  refine ⟨fun j hj => ?_, ?_, ?_, ?_, ?_, ?_⟩
  · by_cases hjk : j = k
    · subst hjk
      have hpowk : look (grantClaim j s).power.slots j = _ := (grantClaim_pow j j s).trans (if_pos rfl)
      unfold PowerSlot PowerFor
      rw [hpowk, grantClaim_slot, if_pos rfl, hwait, hq, ha]
      refine ⟨?_, rfl, ?_, ?_, hfilter, ?_, ?_, ?_, ?_⟩
      · obtain hx | hx := hx <;> rw [hx] at hmain <;> exact hmain
      · obtain hx | hx := hx <;> rw [hx] at hmon <;> exact hmon
      · obtain hx | hx := hx <;> rw [hx] at htimer <;> exact htimer
      · rintro c hc; cases hc; rfl
      · simp
      · simp
      · obtain hx | hx := hx <;> simp [harb, hx]
    · refine (h.slots j hj).of_same ?_ ?_ ?_ ?_ (by rw [ha])
      · rw [grantClaim_pow, if_neg hjk]
      · rw [grantClaim_slot, if_neg hjk]
      · simp [hwait, hjk]
      · simp [hq, hjk]
  · rw [hwait]; exact fun j hj => h.waits j (List.mem_of_mem_filter hj)
  · rw [hq]
    intro j hj
    obtain hj | hj := List.mem_append.mp hj
    · exact h.queued j hj
    · rwa [List.mem_singleton.mp hj]
  · exact h.arbiter
  · rw [hwait]; exact h.waitNodup.filter _
  · rw [hq]
    exact List.nodup_append.mpr ⟨h.queueNodup, List.nodup_singleton k, by
      intro a ha' b hb; rw [List.mem_singleton.mp hb]; rintro rfl; exact hnq ha'⟩

theorem retryClaims_powerOn {S : Slot → Prop} (ks : List Slot) {s : State} (h : PowerOn S s) (hnodup : ks.Nodup)
    (hks : ∀ k ∈ ks, S k ∧ (s.slot k).state = .powerWait) : PowerOn S (eachSlot ks retryClaim s) := by
  induction ks generalizing s with
  | nil => exact h
  | cons k ks ih =>
    obtain ⟨hk, hx⟩ := hks k List.mem_cons_self
    obtain ⟨hnot, hnodup⟩ := List.nodup_cons.mp hnodup
    show PowerOn S (eachSlot ks retryClaim (retryClaim k s))
    unfold retryClaim
    split
    · refine ih (grantClaim_powerOn h hk (.inr hx)) hnodup fun j hj => ?_
      have hjk : j ≠ k := fun e => hnot (e ▸ hj)
      rw [grantClaim_slot, if_neg hjk]
      exact hks j (List.mem_cons_of_mem k hj)
    · exact ih h hnodup fun j hj => hks j (List.mem_cons_of_mem k hj)

theorem reevaluateClaims_powerOn {S : Slot → Prop} {s : State} (h : PowerOn S s) :
    PowerOn S (reevaluateClaims s)
      ∧ ((reevaluateClaims s).power.arbiter = none → (reevaluateClaims s).power.rampQueue = []) :=
  startRamp_powerOn (retryClaims_powerOn _ h h.waitNodup fun k hk => ⟨h.waits k hk, h.waitState hk⟩)

theorem PowerOn.powerSound {s : State} (h : PowerOn (fun _ => True) s)
    (ha : s.power.arbiter = none → s.power.rampQueue = []) : PowerSound s :=
  (powerSound_iff s).mpr ⟨fun k => h.slots k trivial, h.waitNodup, h.queueNodup, ha⟩

theorem reevaluateClaims_powerSound {s : State} (h : PowerSound s) : PowerSound (reevaluateClaims s) :=
  let ⟨hon, ha⟩ := reevaluateClaims_powerOn h.powerOn
  hon.powerSound ha

/-- A slot in IDENTIFYING asks for its claim (R75). -/
theorem requestClaim_powerSound {s : State} {k : Slot} (h : PowerSound s) (hx : (s.slot k).state = .identifying) :
    PowerSound (requestClaim k s) := by
  unfold requestClaim
  split
  · obtain ⟨hon, ha⟩ := startRamp_powerOn (grantClaim_powerOn h.powerOn trivial (.inl hx))
    exact hon.powerSound ha
  · obtain ⟨hslots, hwn, hqn, ha⟩ := (powerSound_iff s).mp h
    obtain ⟨hmain, hclaim, hmon, htimer, hfilter, hepoch, hw, hq, harb⟩ := hslots k
    rw [hx] at hmain hclaim hmon htimer hw hq harb
    have hnw : k ∉ s.power.waitList := by simp [hw]
    have hwait : (parkClaim k s).power.waitList = s.power.waitList ++ [k] := rfl
    have hslot : ∀ j, (parkClaim k s).slot j =
        if j = k then { s.slot k with state := .powerWait, parkReason := some .power } else s.slot j := by
      intro j
      unfold parkClaim
      rw [enterState_slot]
      by_cases hj : j = k
      · simp [hj]
      · simp [hj, State.modSlot_slot_of_ne _ hj]
    refine (powerSound_iff _).mpr ⟨fun j => ?_, ?_, hqn, ha⟩
    · by_cases hj : j = k
      · subst hj
        unfold PowerSlot PowerFor
        rw [hslot, if_pos rfl, hwait]
        refine ⟨hmain, hclaim, hmon, htimer, hfilter, hepoch, by simp, ?_, ?_⟩
        · exact iff_of_false (fun hj => by simpa using hq.mp hj) (by simp)
        · exact iff_of_false (fun hj => by simpa using harb.mp hj) (by simp)
      · exact (hslots j).of_same rfl (by rw [hslot, if_neg hj]) (by simp [hwait, hj]) Iff.rfl Iff.rfl
    · rw [hwait]
      exact List.nodup_append.mpr ⟨hwn, List.nodup_singleton k, by
        intro a ha' b hb; rw [List.mem_singleton.mp hb]; rintro rfl; exact hnw ha'⟩

/-! ## Withdrawal -/

theorem powerGivenUp_pow (j k : Slot) (s : State) : (powerGivenUp k s).pow j =
    if j = k then PowerRecord.reset (s.pow k).powerGood else s.pow j := look_amend ..

/-- Once a slot's power is given up, the others stand as they stood. -/
theorem powerGivenUp_powerOn {s : State} (k : Slot) (h : ∀ j, j ≠ k → PowerSlot s j)
    (hw : s.power.waitList.Nodup) (hq : s.power.rampQueue.Nodup) : PowerOn (· ≠ k) (powerGivenUp k s) := by
  refine ⟨fun j hj => ?_, ?_, ?_, ?_, hw.filter _, hq.filter _⟩
  · refine (h j hj).of_same ?_ rfl ?_ ?_ ?_
    · rw [powerGivenUp_pow, if_neg hj]
    · simp [powerGivenUp, without, hj]
    · simp [powerGivenUp, without, hj]
    · show (if s.power.arbiter = some k then none else s.power.arbiter) = some j ↔ _
      split
      · rename_i ha; simp [ha, Ne.symm hj]
      · exact Iff.rfl
  · simp [powerGivenUp, without]
  · simp [powerGivenUp, without]
  · intro j hj
    have hgiven : (if s.power.arbiter = some k then none else s.power.arbiter) = some j := hj
    split at hgiven
    · cases hgiven
    · rename_i ha; rintro rfl; exact ha hgiven

/-- A slot that is in neither list keeps its power record through a re-evaluation. -/
theorem reevaluateClaims_pow_of_not_mem {s : State} {j : Slot} (hw : j ∉ s.power.waitList)
    (hq : j ∉ s.power.rampQueue) : (reevaluateClaims s).pow j = s.pow j := by
  have hgrants : ∀ (ks : List Slot) (u : State), j ∉ ks → j ∉ u.power.rampQueue →
      (eachSlot ks retryClaim u).pow j = u.pow j ∧ j ∉ (eachSlot ks retryClaim u).power.rampQueue := by
    intro ks
    induction ks with
    | nil => exact fun u _ hu => ⟨rfl, hu⟩
    | cons k ks ih =>
      intro u hks hu
      obtain ⟨hjk, hks⟩ : j ≠ k ∧ j ∉ ks := by simpa using hks
      show (eachSlot ks retryClaim (retryClaim k u)).pow j = _ ∧ j ∉ (eachSlot ks retryClaim (retryClaim k u)).power.rampQueue
      unfold retryClaim
      split
      · have hq' : j ∉ (grantClaim k u).power.rampQueue := by
          show j ∉ u.power.rampQueue ++ [k]
          simp [hu, hjk]
        obtain ⟨hp, hn⟩ := ih (grantClaim k u) hks hq'
        exact ⟨hp.trans (by rw [grantClaim_pow, if_neg hjk]), hn⟩
      · exact ih u hks hu
  obtain ⟨hp, hn⟩ := hgrants s.power.waitList s hw hq
  unfold reevaluateClaims
  obtain ⟨k, rest, -, hqueue, hs⟩ | ⟨-, hs⟩ := startRamp_cases (eachSlot s.power.waitList retryClaim s)
  · have hjk : j ≠ k := by rintro rfl; exact hn (by rw [hqueue]; exact List.mem_cons_self)
    rw [hs, ← hp]
    exact look_amend_of_ne _ hjk _
  · rw [hs, hp]

/-- What a slot's power withdrawal leaves (R82, R85): nothing for the slot, and the others in line with their states. The
slot itself need only be one whose ramp, if the arbiter runs it, has a claim to release. -/
theorem withdrawPower_powerOn {s : State} (k : Slot) (h : ∀ j, j ≠ k → PowerSlot s j)
    (hw : s.power.waitList.Nodup) (hq : s.power.rampQueue.Nodup)
    (hfree : s.power.arbiter = none → s.power.rampQueue = [])
    (hclaim : (s.pow k).claim = none → s.power.arbiter ≠ some k) :
    PowerOn (· ≠ k) (withdrawPower k s)
      ∧ ((withdrawPower k s).power.arbiter = none → (withdrawPower k s).power.rampQueue = [])
      ∧ (withdrawPower k s).pow k = PowerRecord.reset (s.pow k).powerGood := by
  have hgiven := powerGivenUp_powerOn k h hw hq
  have hpow : (powerGivenUp k s).pow k = PowerRecord.reset (s.pow k).powerGood := by
    rw [powerGivenUp_pow, if_pos rfl]
  obtain ⟨hnw, hnq⟩ := not_mem_powerGivenUp (s := s) k
  rw [withdrawPower_eq]
  split
  · obtain ⟨hon, ha⟩ := reevaluateClaims_powerOn hgiven
    exact ⟨hon, ha, (reevaluateClaims_pow_of_not_mem hnw hnq).trans hpow⟩
  · rename_i hnone
    refine ⟨hgiven, fun ha => ?_, hpow⟩
    have hnotk : s.power.arbiter ≠ some k := hclaim (by simpa using hnone)
    have ha : (if s.power.arbiter = some k then none else s.power.arbiter) = none := ha
    rw [if_neg hnotk] at ha
    show without k s.power.rampQueue = []
    rw [hfree ha]
    rfl

/-- What the withdrawal of a slot needs of the Power Controller: the other slots in line with their states, and a claim to
release if the slot's ramp is in progress. A slot's own state may already have changed. -/
structure PowerBut (k : Slot) (s : State) : Prop where
  others : ∀ j, j ≠ k → PowerSlot s j
  waitNodup : s.power.waitList.Nodup
  queueNodup : s.power.rampQueue.Nodup
  free : s.power.arbiter = none → s.power.rampQueue = []
  claimed : (s.pow k).claim = none → s.power.arbiter ≠ some k

theorem PowerSound.but {s : State} (h : PowerSound s) (k : Slot) : PowerBut k s := by
  obtain ⟨hslots, hw, hq, ha⟩ := (powerSound_iff s).mp h
  refine ⟨fun j _ => hslots j, hw, hq, ha, fun hnone hk => ?_⟩
  obtain ⟨-, hclaim, -, -, -, -, -, -, harb⟩ := hslots k
  have hclaim : (s.pow k).claim.isSome = (s.slot k).state.holdsClaim := hclaim
  rw [harb.mp hk, hnone] at hclaim
  cases hclaim

theorem PowerBut.congr {s t : State} {k : Slot} (h : PowerBut k s) (hp : t.power = s.power)
    (hs : ∀ j, j ≠ k → t.slot j = s.slot j) : PowerBut k t := by
  obtain ⟨hothers, hw, hq, hfree, hclaimed⟩ := h
  refine ⟨fun j hj => ?_, hp ▸ hw, hp ▸ hq, hp ▸ hfree, ?_⟩
  · have := hothers j hj
    unfold PowerSlot at this ⊢
    rwa [hp, hs j hj]
  · have hpow : t.pow k = s.pow k := by rw [State.pow, State.pow, hp]
    rw [hpow, hp]; exact hclaimed

/-- After the withdrawal of a slot and its move to a state without power, all slots are in line with their states. -/
theorem withdraw_powerSound {s t : State} {k : Slot} (h : PowerBut k s) (hp : t.power = (withdraw k s).power)
    (hs : ∀ j, j ≠ k → t.slot j = (withdraw k s).slot j) (hx : (t.slot k).state.powerKind = .off) : PowerSound t := by
  have hbut : PowerBut k (s.setAttempt k none) := h.congr rfl fun _ _ => rfl
  obtain ⟨hon, hfree, hpow⟩ := withdrawPower_powerOn k hbut.others hbut.waitNodup hbut.queueNodup hbut.free hbut.claimed
  have hpower : t.power = (withdrawPower k (s.setAttempt k none)).power := hp.trans (withdraw_power k s)
  have hslot : ∀ j, j ≠ k → t.slot j = (withdrawPower k (s.setAttempt k none)).slot j := fun j hj => by
    rw [hs j hj, withdraw, State.slot, withdrawMaps_slots, withdrawService_slots]
    exact State.modSlot_slot_of_ne _ hj _
  refine (powerSound_iff t).mpr ⟨fun j => ?_, hpower ▸ hon.waitNodup, hpower ▸ hon.queueNodup, hpower ▸ hfree⟩
  unfold PowerSlot
  by_cases hj : j = k
  · subst hj
    rw [hpower]
    exact powerFor_off _ hpow (fun hm => hon.waits j hm rfl) (fun hm => hon.queued j hm rfl)
      (fun hm => hon.arbiter j hm rfl) hx
  · rw [hpower, hslot j hj]
    exact hon.slots j hj

theorem faultEntry_powerSound {s : State} {k : Slot} (h : PowerBut k s) (reason : FaultReason) (code : Option Byte) :
    PowerSound (faultEntry k reason code s) := by
  refine withdraw_powerSound h rfl (fun j hj => State.modSlot_slot_of_ne _ hj _) ?_
  rw [faultEntry_slot_same]
  simp only [faultedRecord]
  split <;> rfl

theorem reportFault_powerSound {s : State} (h : PowerSound s) (k : Slot) (e : Epoch) (reason : FaultReason)
    (code : Option Byte) : PowerSound (reportFault k e reason code s) := by
  obtain ⟨-, -, hf⟩ | ⟨-, hf⟩ := reportFault_cases s k e reason code <;> rw [hf]
  · exact faultEntry_powerSound (h.but k) reason code
  · exact h

/-! ## The events -/

theorem lineAsserted_powerSound {s : State} (h : PowerSound s) (k : Slot) : PowerSound (lineAsserted k s) := by
  refine powerSound_congr h (lineAsserted_power k s) fun j => ?_
  obtain hs | ⟨-, -, hx, hs⟩ := lineAsserted_slot (s := s) j k <;> rw [hs]
  · exact ⟨rfl, .inr rfl⟩
  · rw [hx]; exact ⟨rfl, .inr rfl⟩

theorem lineDeasserted_powerSound {s : State} (h : PowerSound s) (k : Slot) : PowerSound (lineDeasserted k s) := by
  refine powerSound_congr h (lineDeasserted_power k s) fun j => ?_
  obtain hs | ⟨-, -, hx, hs⟩ := lineDeasserted_slot (s := s) j k <;> rw [hs]
  · exact ⟨rfl, .inr rfl⟩
  · rw [hx]; exact ⟨rfl, .inr rfl⟩

theorem cardArrived_powerSound {s : State} (h : PowerSound s) (k : Slot) (e : Epoch) :
    PowerSound (cardArrived k e s) := by
  refine powerSound_congr h (cardArrived_power k e s) fun j => ?_
  obtain hs | ⟨-, -, ⟨hx, hs⟩ | ⟨hx, y, hy, hs⟩⟩ := cardArrived_slot (s := s) j k e <;> rw [hs]
  · exact ⟨rfl, .inr rfl⟩
  · rw [hx]; exact ⟨rfl, .inl rfl⟩
  · rw [hx]
    obtain rfl | rfl := hy <;> exact ⟨rfl, .inl rfl⟩

theorem takesCardGone_or_off (x : SlotState) : x.takesCardGone = true ∨ x.powerKind = .off := by
  cases x <;> simp [SlotState.takesCardGone, SlotState.powerKind]

theorem cardGone_powerSound {s : State} (h : PowerSound s) (k : Slot) : PowerSound (cardGone k s) := by
  unfold cardGone
  have hoff : ∀ u : State, (u.slot k).state.powerKind = .off → ((withdraw k u).slot k).state.powerKind = .off := by
    intro u hu; rw [withdraw_slot_same]; exact hu
  split
  · refine withdraw_powerSound ((h.but k).congr (emptySlot_power k s) fun j hj => ?_) rfl (fun _ _ => rfl) (hoff _ ?_)
    · rw [emptySlot_slot, if_neg hj]
    · rw [emptySlot_slot, if_pos rfl]
      split
      · rename_i hq; rw [hq]; rfl
      · rfl
  · rename_i hc
    exact withdraw_powerSound (h.but k) rfl (fun _ _ => rfl) (hoff _ ((takesCardGone_or_off _).resolve_left hc))

theorem admissionGate_powerSound {s : State} (h : PowerSound s) (k : Slot) : PowerSound (admissionGate k s) := by
  refine powerSound_congr h (admissionGate_power s k) fun j => ?_
  obtain hs | ⟨-, hx, -, hs⟩ := admissionGate_slot (s := s) j k <;> rw [hs]
  · exact ⟨rfl, .inr rfl⟩
  · rw [hx]; exact ⟨rfl, .inr rfl⟩

theorem identityTaken_powerSound {s : State} (h : PowerSound s) (k : Slot) (c : IdentityRecord) :
    PowerSound (identityTaken k c s) :=
  powerSound_of_move h rfl k (fun j hj => by rw [identityTaken_slot, if_neg hj])
    (by rw [identityTaken_slot, if_pos rfl]) (by rw [identityTaken_slot, if_pos rfl]; exact .inr rfl)

theorem profileMatched_powerSound {s : State} (h : PowerSound s) (k : Slot) (c : IdentityRecord) (p : ProfileIndex) :
    PowerSound (profileMatched k c p s) :=
  powerSound_of_move h rfl k (fun j hj => by rw [profileMatched_slot, if_neg hj])
    (by rw [profileMatched_slot, if_pos rfl]) (by rw [profileMatched_slot, if_pos rfl]; exact .inr rfl)

theorem IdentEnd.keeps_powerSound {x : Transaction} {o : SegmentOutcome} {s t : State} (h : PowerSound s)
    (hend : IdentEnd x o s t) : PowerSound t := by
  cases hend with
  | discarded => exact h
  | retried => exact powerSound_of_slots h rfl rfl
  | timedOut => exact reportFault_powerSound (powerSound_of_slots (t := s.setAttempt x.slot none) h rfl rfl) ..
  | faulted => exact reportFault_powerSound (identityTaken_powerSound h _ _) ..
  | matched a _ _ c _ _ p _ _ hx _ =>
    refine requestClaim_powerSound (profileMatched_powerSound h x.slot c p) ?_
    rw [profileMatched_slot, if_pos rfl]
    exact hx
  | stale => exact identityTaken_powerSound h _ _

theorem DownloadEnd.keeps_powerSound {x : Transaction} {c : Completion} {s t : State} (h : PowerSound s)
    (hend : DownloadEnd x c s t) : PowerSound t := by
  have hdown : PowerSound (s.setDownload x.slot none) := powerSound_of_slots h rfl rfl
  cases hend with
  | discarded => exact h
  | wentOn => exact powerSound_of_slots h rfl rfl
  | complete d _ _ _ _ _ hx _ =>
    refine powerSound_of_move hdown rfl x.slot (fun j hj => enterState_slot_of_ne _ hj _) ?_ ?_
    · rw [State.modMaps_slot, enterState_slot_same, State.setDownload_slot, hx]; rfl
    · rw [State.modMaps_slot, enterState_slot_same]; exact .inr rfl
  | stale => exact hdown
  | failed => exact reportFault_powerSound hdown ..

theorem completeTransaction_powerSound {s : State} (h : PowerSound s) (x : Transaction) (c : Completion) :
    PowerSound (completeTransaction x c s) := by
  cases hx : x.origin with
  | sequencer =>
    rw [completeTransaction_of_sequencer c s hx]
    exact (downloadCompletion_end x c s).keeps_powerSound h
  | passThrough =>
    rw [completeTransaction_of_passThrough c s hx, passThroughCompletion]
    split
    · exact powerSound_of_slots h rfl rfl
    · exact h

/-- The state in which a good ramp hands the arbiter on. -/
def rampEnded (k : Slot) (s : State) : State :=
  (createDownload k (enterState k .configuring (s.modPow k fun r =>
    { r with rampTimer := none, monitoring := true, filter := false }))).modPower fun p => { p with arbiter := none }

theorem rampEnded_slot (k j : Slot) (s : State) : (rampEnded k s).slot j =
    if j = k then { s.slot k with state := .configuring } else s.slot j := by
  refine (enterState_slot ..).trans ?_
  split <;> rfl

theorem rampEnded_pow (k j : Slot) (s : State) : look (rampEnded k s).power.slots j =
    if j = k then { s.pow k with rampTimer := none, monitoring := true, filter := false } else s.pow j :=
  look_amend ..

theorem rampEnded_lists (k : Slot) (s : State) : (rampEnded k s).power.waitList = s.power.waitList
    ∧ (rampEnded k s).power.rampQueue = s.power.rampQueue ∧ (rampEnded k s).power.arbiter = none := ⟨rfl, rfl, rfl⟩

theorem rampGood_powerSound {s : State} (h : PowerSound s) {k : Slot} (hr : rampEndTaken k s = true) :
    PowerSound (rampGood k s) := by
  obtain ⟨hslots, hwn, hqn, -⟩ := (powerSound_iff s).mp h
  obtain ⟨hx, -⟩ := (rampEndTaken_iff s k).mp hr
  obtain ⟨hmain, hclaim, -, -, -, hepoch, hw, hq, harb⟩ := hslots k
  have hak : s.power.arbiter = some k := harb.mpr hx
  rw [hx] at hmain hclaim hw hq
  obtain ⟨hwait, hqueue, hfree⟩ := rampEnded_lists k s
  suffices hon : PowerOn (fun _ => True) (rampEnded k s) from
    (startRamp_powerOn hon).elim fun hon ha => hon.powerSound ha
  refine ⟨fun j _ => ?_, fun _ _ => trivial, fun _ _ => trivial, fun _ _ => trivial, hwn, hqn⟩
  by_cases hj : j = k
  · subst hj
    unfold PowerSlot PowerFor
    rw [rampEnded_slot, rampEnded_pow, hwait, hqueue, hfree, if_pos rfl, if_pos rfl]
    exact ⟨hmain, hclaim, rfl, rfl, fun _ => rfl, hepoch, hw.trans (by simp), hq.trans (by simp), by simp⟩
  · refine (hslots j).of_same ?_ ?_ ?_ ?_ ?_
    · exact (rampEnded_pow ..).trans (if_neg hj)
    · rw [rampEnded_slot, if_neg hj]
    · rw [hwait]
    · rw [hqueue]
    · rw [hfree, hak]
      simp [Ne.symm hj]

/-- The filter and the level of the line are no part of what the states fix, while the filter runs only when monitored. -/
theorem modPow_powerSound {s : State} (h : PowerSound s) (k : Slot) (f : PowerRecord → PowerRecord)
    (hf : ∀ r, (f r).mainSupply = r.mainSupply ∧ (f r).claim = r.claim ∧ (f r).monitoring = r.monitoring
      ∧ (f r).rampTimer = r.rampTimer)
    (hfilter : ∀ r, (r.filter = true → r.monitoring = true) → (f r).filter = true → r.monitoring = true) :
    PowerSound (s.modPow k f) := by
  obtain ⟨hslots, hw, hq, ha⟩ := (powerSound_iff s).mp h
  refine (powerSound_iff _).mpr ⟨fun j => ?_, hw, hq, ha⟩
  by_cases hj : j = k
  · subst hj
    have hpow : look (s.modPow j f).power.slots j = f (look s.power.slots j) := look_amend_same ..
    obtain ⟨h1, h2, h3, h4, h5, h6, h7⟩ := hslots j
    obtain ⟨e1, e2, e3, e4⟩ := hf (look s.power.slots j)
    unfold PowerSlot PowerFor
    rw [hpow, e1, e2, e3, e4]
    exact ⟨h1, h2, h3, h4, hfilter _ h5, h6, h7⟩
  · exact (hslots j).of_same (State.modPow_pow_of_ne _ hj _) rfl Iff.rfl Iff.rfl Iff.rfl

theorem accountSlot_powerSound {s : State} (h : PowerSound s) (limit : Nat) (p : Addressed × WindowOutcome) :
    PowerSound (accountSlot limit s p) := by
  obtain ⟨a, o⟩ := p
  have hmissed : PowerSound (missCounted a.slot s) := powerSound_of_move h rfl a.slot
    (fun j hj => by rw [missCounted_slot, if_neg hj]) (by rw [missCounted_slot, if_pos rfl])
    (by rw [missCounted_slot, if_pos rfl]; exact .inr rfl)
  obtain hs | ⟨hrun, -, ⟨data, diag, -, hs⟩ | ⟨-, -, hs⟩ | ⟨-, -, hs⟩⟩ := accountSlot_cases (s := s) limit a o <;>
    rw [hs]
  · exact h
  · refine powerSound_congr h ?_ fun j => ?_
    · unfold takeResponse; dsimp only; split <;> rfl
    · rw [takeResponse_slot]
      split
      · rename_i hj; subst hj; unfold countAnswered; split <;> exact ⟨rfl, .inr rfl⟩
      · exact ⟨rfl, .inr rfl⟩
  · exact hmissed
  · exact faultEntry_powerSound (hmissed.but a.slot) ..

theorem swapMove_powerKind {m : ImageMap} {k : Slot} {r r' : SlotRecord} (h : SwapMove m k r r') :
    r'.state.powerKind = r.state.powerKind ∧ (r.state.powerKind = .off ∨ r'.epoch = r.epoch) := by
  obtain rfl | ⟨hx, -, rfl⟩ := h
  · exact ⟨rfl, .inr rfl⟩
  · rw [hx]; exact ⟨rfl, .inr rfl⟩

theorem powerOff_powerSound {s : State} (hp : ∃ f : Slot → Bool, ∀ k, s.pow k = PowerRecord.reset (f k))
    (hw : s.power.waitList = []) (hq : s.power.rampQueue = []) (ha : s.power.arbiter = none)
    (hx : ∀ k, (s.slot k).state.powerKind = .off) : PowerSound s := by
  obtain ⟨f, hf⟩ := hp
  refine (powerSound_iff s).mpr ⟨fun k => ?_, by rw [hw]; exact List.nodup_nil, by rw [hq]; exact List.nodup_nil,
    fun _ => hq⟩
  exact powerFor_off _ (hf k) (by simp [hw]) (by simp [hq]) (by simp [ha]) (hx k)

theorem resumeInsertion_powerSound {s : State} (h : PowerSound s) (k : Slot) : PowerSound (resumeInsertion k s) := by
  unfold resumeInsertion; split
  · exact lineAsserted_powerSound h k
  · exact h

theorem restartBlocks_slot (k : Slot) (s : State) : (restartBlocks s).slot k = restartSlot (s.slot k) :=
  look_amendAll ..

theorem restartBlocks_pow (k : Slot) (s : State) :
    (restartBlocks s).pow k = PowerRecord.reset (s.pow k).powerGood :=
  look_amendAll s.power.slots (fun r => PowerRecord.reset r.powerGood) k

theorem coldState_pow (k : Slot) (s : State) : (coldState s).pow k = PowerRecord.reset (s.pow k).powerGood :=
  look_amendAll s.power.slots (fun r => PowerRecord.reset r.powerGood) k

theorem coldState_slot (k : Slot) (s : State) : (coldState s).slot k = SlotRecord.reset :=
  look_replicate SlotRecord.reset k

theorem restartAll_powerSound (s : State) : PowerSound (restartAll s) := by
  rw [restartAll]
  refine eachSlot_keeps (P := PowerSound) allSlots (fun k _ u h => admissionGate_powerSound h k) _
    (eachSlot_keeps (P := PowerSound) allSlots (fun k _ u h => resumeInsertion_powerSound h k) _ ?_)
  refine powerOff_powerSound ⟨_, fun k => restartBlocks_pow k s⟩ rfl rfl rfl fun k => ?_
  rw [restartBlocks_slot, restartSlot]
  dsimp only
  split <;> rfl

theorem coldReset_powerSound (s : State) : PowerSound (eachSlot allSlots redetect (coldState s)) := by
  refine eachSlot_keeps (P := PowerSound) allSlots (fun k _ u h => ?_) _ ?_
  · unfold redetect; split
    · exact lineAsserted_powerSound h k
    · exact h
  · refine powerOff_powerSound ⟨_, fun k => coldState_pow k s⟩ rfl rfl rfl fun k => ?_
    rw [coldState_slot]; rfl

theorem putSettings_powerSound {s : State} (h : PowerSound s) (r : RackSettings) : PowerSound (putSettings r s) := by
  rw [putSettings]
  have hset : PowerSound (s.modMgmt fun m => { m with settings := r.clamped }) := powerSound_of_slots h rfl rfl
  have hbudget : PowerSound (handBudget s.settings (s.modMgmt fun m => { m with settings := r.clamped })) := by
    unfold handBudget; split
    · exact reevaluateClaims_powerSound hset
    · exact hset
  have hadmission : PowerSound (handAdmission s.settings
      (handBudget s.settings (s.modMgmt fun m => { m with settings := r.clamped }))) := by
    unfold handAdmission; split
    · exact eachSlot_keeps (P := PowerSound) allSlots (fun k _ u h => admissionGate_powerSound h k) _ hbudget
    · exact hbudget
  unfold handTiming
  split
  · exact powerSound_of_slots hadmission rfl rfl
  · exact hadmission

theorem Served.keeps_powerSound {s t : State} (h : PowerSound s) (hd : Served s t) : PowerSound t := by
  cases hd with
  | modeSet k m =>
    refine powerSound_congr h (setMode_power k m s) fun j => ?_
    obtain hs | ⟨-, hs | ⟨hx, hs⟩⟩ := setMode_slot (s := s) j k m <;> rw [hs]
    · exact ⟨rfl, .inr rfl⟩
    · exact ⟨rfl, .inr rfl⟩
    · rw [hx]; exact ⟨rfl, .inr rfl⟩
  | started k hx _ =>
    refine powerSound_of_move h rfl k (fun j hj => by rw [enterIdentifying_slot, if_neg hj]) ?_ ?_
    · rw [enterIdentifying_slot, if_pos rfl, hx]; rfl
    · rw [hx]; exact .inl rfl
  | stopped k _ =>
    refine withdraw_powerSound (h.but k) rfl (fun j hj => ?_) ?_
    · rw [stopSlot, enterState_slot_of_ne _ hj, State.modSlot_slot_of_ne _ hj]
    · rw [stopSlot_slot_same]; rfl
  | faultedCleared k hx =>
    refine powerSound_of_move h (by rw [clearFaulted, admissionGate_power]; rfl) k
      (fun j hj => clearFaulted_slot_of_ne hj) ?_ (by rw [hx]; exact .inl rfl)
    obtain ⟨y, hy, hs⟩ := clearFaulted_slot_same (s := s) k
    rw [hs, hx]
    obtain rfl | rfl := hy <;> rfl
  | quarantinedCleared k hx =>
    refine powerSound_of_move h rfl k (fun j hj => by rw [clearQuarantined_slot, if_neg hj]) ?_
      (by rw [hx]; exact .inl rfl)
    rw [clearQuarantined_slot, if_pos rfl, hx]
    dsimp only [clearedState]
    split
    · rfl
    · split <;> rfl
  | profilesPurged => rw [foldl_setProfile_frame]; exact powerSound_of_slots h rfl rfl
  | settingsPut args r _ _ => exact putSettings_powerSound h r
  | restarted => exact restartAll_powerSound s
  | _ => exact powerSound_of_slots h rfl rfl

theorem Effect.keeps_powerSound {s t : State} (h : PowerSound s) (hd : Effect s t) : PowerSound t := by
  have hpres : ∀ k f, PowerSound (s.modPres k f) := fun _ _ => powerSound_of_slots h rfl rfl
  have hover : PowerSound (segmentOver s) := powerSound_of_slots h rfl rfl
  cases hd with
  | served hd => exact hd.keeps_powerSound h
  | lineAsserted k => exact lineAsserted_powerSound h k
  | lineDeasserted k => exact lineDeasserted_powerSound h k
  | inserted k d e _ => exact cardArrived_powerSound (hpres k _) k e
  | removed k d _ => exact cardGone_powerSound (hpres k _) k
  | identCompleted g x _ _ o => exact (identCompletion_end x o _).keeps_powerSound hover
  | completed g x _ _ c => exact completeTransaction_powerSound hover x c
  | rampGood k _ hr => exact rampGood_powerSound h hr
  | rampBad k _ _ =>
    unfold Machine.rampBad; split
    · exact reportFault_powerSound h ..
    · exact h
  | rampDiscarded k ht hr => rw [rampEndTaken_of_sound s k h ht] at hr; cases hr
  | powerGoodDeasserted k =>
    refine modPow_powerSound h k _ (fun _ => ⟨rfl, rfl, rfl, rfl⟩) fun r hr ht => ?_
    · obtain hf | hm := (Bool.or_eq_true ..).mp ht
      · exact hr hf
      · exact hm
  | powerGoodAsserted k => exact modPow_powerSound h k _ (fun _ => ⟨rfl, rfl, rfl, rfl⟩) (by simp; tauto)
  | powerLost k _ c _ =>
    exact reportFault_powerSound (modPow_powerSound h k (fun r => { r with filter := false })
      (fun _ => ⟨rfl, rfl, rfl, rfl⟩) (by simp)) ..
  | filterStopped k _ _ => exact modPow_powerSound h k _ (fun _ => ⟨rfl, rfl, rfl, rfl⟩) (by simp)
  | configTimedOut k d _ =>
    exact reportFault_powerSound (powerSound_of_slots (t := s.setDownload k none) h rfl rfl) ..
  | built _ =>
    refine powerSound_congr h (runBuild_power s) fun j => ?_
    obtain hs | ⟨hx, ⟨p, -, hs⟩ | hs⟩ := runBuild_slot (s := s) j <;> rw [hs]
    · exact ⟨rfl, .inr rfl⟩
    · exact ⟨rfl, .inr rfl⟩
    · rw [hx]; exact ⟨rfl, .inr rfl⟩
  | frameAccepted _ f g long _ =>
    refine powerSound_congr h (acceptFrame_power f g long s) fun j => ?_
    obtain hs | ⟨m, -, hs⟩ := acceptFrame_slot (s := s) f g long j
    · rw [hs]; exact ⟨rfl, .inr rfl⟩
    · exact swapMove_powerKind hs
  | frameServed f _ _ =>
    refine powerSound_congr h (serveFrame_power f _) fun j => ?_
    obtain hs | ⟨m, -, hs⟩ := serveFrame_slot (s := s.modCycle fun c => { c with holder := none }) f j
    · rw [hs]; exact ⟨rfl, .inr rfl⟩
    · exact swapMove_powerKind hs
  | accounted x _ _ _ =>
    have h' : PowerSound (s.modCycle fun c => { c with exchange := none }) := powerSound_of_slots h rfl rfl
    revert h'
    generalize s.modCycle _ = u
    induction x.addressed.zip x.outcomes generalizing u with
    | nil => exact id
    | cons p ps ih => exact fun hu => ih _ (accountSlot_powerSound hu _ p)
  | _ => exact powerSound_of_slots h rfl rfl

theorem Posted.slots_eq {s u t : State} (h : Posted s u t) : t.slots = u.slots := by cases h <;> rfl

theorem Posted.power_eq {s u t : State} (h : Posted s u t) : t.power = u.power := by cases h <;> rfl

theorem Done.keeps_powerSound {s t : State} (h : PowerSound s) (hd : Done s t) : PowerSound t := by
  obtain ⟨u, he, hp⟩ := hd
  exact powerSound_of_slots (he.keeps_powerSound h) hp.power_eq hp.slots_eq

/-- Settles O9: every change of a command keeps the power records of the slots it moves in line with their states. -/
theorem stepKeepsPowerSound : Obligations.StepKeepsPowerSound := fun _ _ hs =>
  step_keeps (fun _ _ h => h) (fun u _ => coldReset_powerSound u) (fun _ _ => Done.keeps_powerSound) hs

end Sys2Proof.Machine
end

section
/-!
PROOF. How a slot record moves: the single moves of the sequencer while a card stays where it is, and that every command
but those that tell of the card or reset the coupler makes a run of them for every slot (R2 to R4, R9 to R22).
-/
namespace Sys2Proof.Machine

/-! ## The moves of a slot record -/

/-- One move of a slot record that leaves card and epoch alone. `reads` says that an identity read of the slot may end,
`swaps` that a map which becomes the Active Map holds its entry. -/
inductive WorkStep (reads swaps : Prop) (r : SlotRecord) : SlotRecord → Prop
  | modeChosen (m : Mode) : WorkStep reads swaps r { r with mode := m }
  | admitted (h : r.state = .present) : WorkStep reads swaps r { r with state := .identifying }
  | stopped (h : r.state.stoppable = true) :
      WorkStep reads swaps r { r with state := .present, mode := .manual, profileIndex := none, parkReason := none }
  | faultCleared (h : r.state = .faulted) :
      WorkStep reads swaps r { r with state := .present, faultReason := none, cardCode := none, profileIndex := none }
  | faulted (reason : FaultReason) (code : Option Byte) (h : reason.takenIn r.state = true)
      (hc : code.isSome = true ↔ reason = .cardRefused) : WorkStep reads swaps r (faultedRecord reason code r)
  | identityRead (c : IdentityRecord) (h : reads) : WorkStep reads swaps r { r with identity := some c }
  | claimParked (p : ProfileIndex) (h : r.state = .identifying) (hi : r.identity.isSome = true) :
      WorkStep reads swaps r { r with profileIndex := some p, state := .powerWait, parkReason := some .power }
  | claimGranted (p : ProfileIndex) (h : r.state = .identifying) (hi : r.identity.isSome = true) :
      WorkStep reads swaps r { r with profileIndex := some p, state := .rampQueued, parkReason := none }
  | waitGranted (h : r.state = .powerWait) : WorkStep reads swaps r { r with state := .rampQueued, parkReason := none }
  | rampStarted (h : r.state = .rampQueued) : WorkStep reads swaps r { r with state := .ramping }
  | rampEnded (h : r.state = .ramping) : WorkStep reads swaps r { r with state := .configuring }
  | configured (h : r.state = .configuring) : WorkStep reads swaps r { r with state := .mapWait }
  | parked (reason : ParkReason) (h : r.state = .mapWait) (hr : reason = .image ∨ reason = .cycle) :
      WorkStep reads swaps r { r with parkReason := some reason }
  | placed (h : r.state = .mapWait) : WorkStep reads swaps r { r with state := .mapPending, parkReason := none }
  | swapped (h : r.state = .mapPending) (hs : swaps) :
      WorkStep reads swaps r { r with state := .running, cleanRun := 0 }
  | answered (h : r.state = .running) : WorkStep reads swaps r (countAnswered r)
  | missed (h : r.state = .running) : WorkStep reads swaps r { r with cleanRun := 0 }

/-- A run of moves of a slot record. -/
def WorkSteps (reads swaps : Prop) : SlotRecord → SlotRecord → Prop := Relation.ReflTransGen (WorkStep reads swaps)

section
variable {reads swaps : Prop} {s t : State} {r r' : SlotRecord}

theorem WorkSteps.refl (r : SlotRecord) : WorkSteps reads swaps r r := Relation.ReflTransGen.refl

theorem WorkSteps.of_eq (h : r' = r) : WorkSteps reads swaps r r' := by
  rw [h]
  exact .refl r

theorem WorkStep.steps (h : WorkStep reads swaps r r') : WorkSteps reads swaps r r' := Relation.ReflTransGen.single h

theorem WorkSteps.then {r'' : SlotRecord} (h : WorkSteps reads swaps r r') (h' : WorkSteps reads swaps r' r'') :
    WorkSteps reads swaps r r'' := Relation.ReflTransGen.trans h h'

/-- What every move keeps, a run of moves keeps. -/
theorem WorkSteps.keeps {P : SlotRecord → Prop} (hP : ∀ r r', WorkStep reads swaps r r' → P r → P r')
    (h : WorkSteps reads swaps r r') (hr : P r) : P r' := by
  induction h with
  | refl => exact hr
  | tail _ hstep ih => exact hP _ _ hstep ih

theorem takenIn_bringUp {reason : FaultReason} {x : SlotState} (h : reason.takenIn x = true) :
    x.stoppable = true := by
  cases reason <;> cases x <;> first | rfl | exact absurd h (by decide)

/-- A state in which the sequencer has a card at work. -/
theorem stoppable_iff (x : SlotState) : x.stoppable = true ↔
    ¬ (x = .empty ∨ x = .settling ∨ x = .present ∨ x = .faulted ∨ x = .quarantined) := by
  cases x <;> decide

/-! ## The runs of each operation -/

theorem PowerMove.steps {j : Slot} (h : PowerSound s) (hm : PowerMove s t j) :
    WorkSteps reads swaps (s.slot j) (t.slot j) := by
  obtain hs | ⟨hw, x, hx, hs⟩ | ⟨hq, hs⟩ := hm
  · exact .of_eq hs
  · have hgrant := (WorkStep.waitGranted (reads := reads) (swaps := swaps) (h.waitState hw)).steps
    obtain rfl | rfl := hx
    · rw [hs]; exact hgrant
    · rw [hs]
      exact hgrant.then (WorkStep.rampStarted (r := { s.slot j with state := .rampQueued, parkReason := none }) rfl).steps
  · rw [hs]; exact (WorkStep.rampStarted (h.queueState hq)).steps

theorem admissionGate_steps (j k : Slot) (u : State) : WorkSteps reads swaps (u.slot j) ((admissionGate k u).slot j) := by
  obtain hs | ⟨-, hx, -, hs⟩ := admissionGate_slot (s := u) j k <;> rw [hs]
  · exact .refl _
  · exact (WorkStep.admitted hx).steps

theorem setMode_steps (j k : Slot) (m : Mode) (u : State) :
    WorkSteps reads swaps (u.slot j) ((setMode k m u).slot j) := by
  obtain hs | ⟨-, hs | ⟨hx, hs⟩⟩ := setMode_slot (s := u) j k m <;> rw [hs]
  · exact .refl _
  · exact (WorkStep.modeChosen m).steps
  · exact (WorkStep.modeChosen m).steps.then
      (WorkStep.admitted (r := { u.slot j with mode := m }) hx).steps

theorem clearFaulted_steps (j k : Slot) (h : (s.slot k).state = .faulted) :
    WorkSteps reads swaps (s.slot j) ((clearFaulted k s).slot j) := by
  by_cases hj : j = k
  · subst hj
    obtain ⟨x, hx, hs⟩ := clearFaulted_slot_same (s := s) j
    have hclear := (WorkStep.faultCleared (reads := reads) (swaps := swaps) h).steps
    rw [hs]
    obtain rfl | rfl := hx
    · exact hclear
    · exact hclear.then (WorkStep.admitted
        (r := { s.slot j with state := .present, faultReason := none, cardCode := none, profileIndex := none }) rfl).steps
  · exact .of_eq (clearFaulted_slot_of_ne hj)

theorem stopSlot_steps (hp : PowerSound s) (j k : Slot) (h : (s.slot k).state.stoppable = true) :
    WorkSteps reads swaps (s.slot j) ((stopSlot k s).slot j) := by
  by_cases hj : j = k
  · subst hj
    rw [stopSlot_slot_same]
    exact (WorkStep.stopped h).steps
  · exact (stopSlot_slot_of_ne hj).steps hp

theorem faultEntry_steps (hp : PowerSound s) (j k : Slot) (reason : FaultReason) (code : Option Byte)
    (h : reason.takenIn (s.slot k).state = true) (hc : code.isSome = true ↔ reason = .cardRefused) :
    WorkSteps reads swaps (s.slot j) ((faultEntry k reason code s).slot j) := by
  by_cases hj : j = k
  · subst hj
    rw [faultEntry_slot_same]
    exact (WorkStep.faulted reason code h hc).steps
  · exact (faultEntry_slot_of_ne hj reason code).steps hp

theorem reportFault_steps (hp : PowerSound s) (j k : Slot) (e : Epoch) (reason : FaultReason) (code : Option Byte)
    (hc : code.isSome = true ↔ reason = .cardRefused) :
    WorkSteps reads swaps (s.slot j) ((reportFault k e reason code s).slot j) := by
  obtain ⟨h, -, hs⟩ | ⟨-, hs⟩ := reportFault_cases s k e reason code <;> rw [hs]
  · exact faultEntry_steps hp j k reason code h hc
  · exact .refl _

theorem reevaluateClaims_steps (hp : PowerSound s) (j : Slot) :
    WorkSteps reads swaps (s.slot j) ((reevaluateClaims s).slot j) := (reevaluateClaims_slot j).steps hp

theorem eachSlot_steps {act : Slot → State → State}
    (hact : ∀ k u j, WorkSteps reads swaps (u.slot j) ((act k u).slot j)) (ks : List Slot) (u : State) (j : Slot) :
    WorkSteps reads swaps (u.slot j) ((eachSlot ks act u).slot j) := by
  induction ks generalizing u with
  | nil => exact .refl _
  | cons k ks ih => exact (hact k u j).then (ih (act k u))

/-- A claim asked for ends in one of three states, which the slot enters from IDENTIFYING with its profile's index. -/
theorem requestClaim_matched_steps (hp : PowerSound s) (j k : Slot) (c : IdentityRecord) (p : ProfileIndex)
    (hr : j = k → reads) (hx : (s.slot k).state = .identifying) :
    WorkSteps reads swaps (s.slot j) ((requestClaim k (profileMatched k c p s)).slot j) := by
  have hmatched := profileMatched_slot j k c p s
  have hread (hj : j = k) : WorkSteps reads swaps (s.slot k) { s.slot k with identity := some c } :=
    (WorkStep.identityRead c (hr hj)).steps
  unfold requestClaim
  split
  · have hslot : (grantClaim k (profileMatched k c p s)).slot j = if j = k then
        { s.slot k with identity := some c, profileIndex := some p, state := .rampQueued, parkReason := none }
        else s.slot j := by
      rw [grantClaim_slot]
      by_cases hj : j = k
      · rw [if_pos hj, if_pos hj, profileMatched_slot, if_pos rfl]
      · rw [if_neg hj, if_neg hj, profileMatched_slot, if_neg hj]
    have hgrant : WorkSteps reads swaps (s.slot j) ((grantClaim k (profileMatched k c p s)).slot j) := by
      rw [hslot]
      split
      · rename_i hj
        rw [hj]
        exact (hread hj).then (WorkStep.claimGranted (r := { s.slot k with identity := some c }) p hx rfl).steps
      · exact .refl _
    refine hgrant.then ?_
    obtain hs | ⟨hq, hs⟩ := startRamp_slot (s := grantClaim k (profileMatched k c p s)) j <;> rw [hs]
    · exact .refl _
    · refine (WorkStep.rampStarted ?_).steps
      rw [hslot]
      split
      · rfl
      · rename_i hj
        refine hp.queueState ?_
        have hq : j ∈ s.power.rampQueue ++ [k] := hq
        simpa [hj] using hq
  · rw [parkClaim, enterState_slot]
    split
    · rename_i hj
      rw [hj, State.modSlot_slot_same, State.modPower_slot, profileMatched_slot, if_pos rfl]
      exact (hread hj).then (WorkStep.claimParked (r := { s.slot k with identity := some c }) p hx rfl).steps
    · rename_i hj
      refine .of_eq ?_
      rw [State.modSlot_slot_of_ne _ hj, State.modPower_slot, hmatched, if_neg hj]

theorem identityTaken_steps (j k : Slot) (c : IdentityRecord) (hr : j = k → reads) (u : State) :
    WorkSteps reads swaps (u.slot j) ((identityTaken k c u).slot j) := by
  rw [identityTaken_slot]
  split
  · rename_i hj; rw [hj]; exact (WorkStep.identityRead c (hr hj)).steps
  · exact .refl _

theorem IdentEnd.steps {x : Transaction} {o : SegmentOutcome} (hp : PowerSound s) (hend : IdentEnd x o s t) (j : Slot) :
    WorkSteps ((s.attempt j).isSome = true) swaps (s.slot j) (t.slot j) := by
  have hreads : ∀ a, s.attempt x.slot = some a → j = x.slot → (s.attempt j).isSome = true := fun a ha hj => by
    rw [hj, ha]; rfl
  cases hend with
  | discarded => exact .refl _
  | retried => exact .refl _
  | timedOut a =>
    exact reportFault_steps (powerSound_of_slots (t := s.setAttempt x.slot none) hp rfl rfl) j x.slot a.epoch
      .identTimeout none (by simp)
  | faulted a ha _ c _ reason hr =>
    refine (identityTaken_steps j x.slot c (hreads a ha) s).then
      (reportFault_steps (identityTaken_powerSound hp _ _) j x.slot x.epoch reason none ?_)
    obtain ⟨-, rfl⟩ | ⟨-, -, rfl⟩ | ⟨-, -, -, -, rfl⟩ := hr <;> simp
  | matched a ha _ c _ _ p _ _ hx _ => exact requestClaim_matched_steps hp j x.slot c p (hreads a ha) hx
  | stale a ha _ c => exact identityTaken_steps j x.slot c (hreads a ha) s

theorem enterState_steps (j k : Slot) (x : SlotState)
    (h : WorkSteps reads swaps (s.slot k) { s.slot k with state := x }) :
    WorkSteps reads swaps (s.slot j) ((enterState k x s).slot j) := by
  rw [enterState_slot]
  split
  · rename_i hj; rw [hj]; exact h
  · exact .refl _

theorem DownloadEnd.steps {x : Transaction} {c : Completion} (hp : PowerSound s) (hend : DownloadEnd x c s t) (j : Slot) :
    WorkSteps reads swaps (s.slot j) (t.slot j) := by
  have hdown : PowerSound (s.setDownload x.slot none) := powerSound_of_slots hp rfl rfl
  cases hend with
  | discarded => exact .refl _
  | wentOn => exact .refl _
  | complete d _ _ _ _ _ hx _ =>
    exact enterState_steps (s := s.setDownload x.slot none) j x.slot .mapWait (WorkStep.configured hx).steps
  | stale => exact .refl _
  | failed d _ _ reason code hr =>
    refine reportFault_steps hdown j x.slot d.epoch reason code ?_
    obtain ⟨b, -, rfl, rfl⟩ | ⟨-, rfl, rfl⟩ := hr <;> simp

theorem passThroughCompletion_slots (x : Transaction) (c : Completion) (u : State) :
    (passThroughCompletion x c u).slots = u.slots := by
  unfold passThroughCompletion; split <;> rfl

theorem completeTransaction_steps (hp : PowerSound s) (x : Transaction) (c : Completion) (j : Slot) :
    WorkSteps reads swaps (s.slot j) ((completeTransaction x c s).slot j) := by
  cases hx : x.origin with
  | sequencer =>
    rw [completeTransaction_of_sequencer c s hx]
    exact (downloadCompletion_end x c s).steps hp j
  | passThrough =>
    rw [completeTransaction_of_passThrough c s hx]
    exact .of_eq (slot_of_slots (passThroughCompletion_slots x c s) j)

theorem rampGood_eq (k : Slot) (u : State) : rampGood k u = startRamp (rampEnded k u) := rfl

theorem rampGood_steps (hp : PowerSound s) {k : Slot} (h : rampEndTaken k s = true) (j : Slot) :
    WorkSteps reads swaps (s.slot j) ((rampGood k s).slot j) := by
  obtain ⟨hx, -⟩ := (rampEndTaken_iff s k).mp h
  have hended : WorkSteps reads swaps (s.slot j) ((rampEnded k s).slot j) := by
    rw [rampEnded_slot]
    split
    · rename_i hj; rw [hj]; exact (WorkStep.rampEnded hx).steps
    · exact .refl _
  rw [rampGood_eq]
  refine hended.then ?_
  obtain hs | ⟨hq, hs⟩ := startRamp_slot (s := rampEnded k s) j <;> rw [hs]
  · exact .refl _
  · have hqueued : (s.slot j).state = .rampQueued := hp.queueState hq
    refine (WorkStep.rampStarted ?_).steps
    rw [rampEnded_slot, if_neg, hqueued]
    rintro rfl
    rw [hx] at hqueued
    cases hqueued

theorem BuildMove.steps (h : BuildMove r r') : WorkSteps reads swaps r r' := by
  obtain hs | ⟨hx, ⟨reason, hr, hs⟩ | hs⟩ := h
  · exact .of_eq hs
  · rw [hs]; exact (WorkStep.parked reason hx hr).steps
  · rw [hs]; exact (WorkStep.placed hx).steps

theorem SwapMove.steps {m : ImageMap} {k : Slot} (h : SwapMove m k r r')
    (hs : (∃ e, entryOf m.entries k = some e ∧ e.epoch = r.epoch) → swaps) : WorkSteps reads swaps r r' := by
  obtain hr | ⟨hx, hentry, hr⟩ := h
  · exact .of_eq hr
  · rw [hr]; exact (WorkStep.swapped hx (hs hentry)).steps

theorem missCounted_powerSound (hp : PowerSound s) (k : Slot) : PowerSound (missCounted k s) :=
  powerSound_of_move hp rfl k (fun j hj => by rw [missCounted_slot, if_neg hj]) (by rw [missCounted_slot, if_pos rfl])
    (by rw [missCounted_slot, if_pos rfl]; exact .inr rfl)

theorem accountSlot_steps (hp : PowerSound s) (limit : Nat) (p : Addressed × WindowOutcome) (j : Slot) :
    WorkSteps reads swaps (s.slot j) ((accountSlot limit s p).slot j) := by
  obtain ⟨a, o⟩ := p
  have hmissed (hrun : (s.slot a.slot).state = .running) :
      WorkSteps reads swaps (s.slot j) ((missCounted a.slot s).slot j) := by
    rw [missCounted_slot]
    split
    · rename_i hj; rw [hj]; exact (WorkStep.missed hrun).steps
    · exact .refl _
  obtain hs | ⟨hrun, -, ⟨data, diag, -, hs⟩ | ⟨-, -, hs⟩ | ⟨-, -, hs⟩⟩ := accountSlot_cases (s := s) limit a o <;>
    rw [hs]
  · exact .refl _
  · rw [takeResponse_slot]
    split
    · rename_i hj; rw [hj]; exact (WorkStep.answered hrun).steps
    · exact .refl _
  · exact hmissed hrun
  · refine (hmissed hrun).then (faultEntry_steps (missCounted_powerSound hp a.slot) j a.slot _ _ ?_ (by simp))
    rw [missCounted_slot, if_pos rfl]
    exact (by rw [hrun]; rfl : FaultReason.takenIn .responseLost (s.slot a.slot).state = true)

theorem accounted_steps (hp : PowerSound s) (limit : Nat) (ps : List (Addressed × WindowOutcome)) (j : Slot) :
    WorkSteps reads swaps (s.slot j) ((ps.foldl (accountSlot limit) s).slot j) := by
  induction ps generalizing s with
  | nil => exact .refl _
  | cons p ps ih => exact (accountSlot_steps hp limit p j).then (ih (accountSlot_powerSound hp limit p))

theorem putSettings_steps (hp : PowerSound s) (v : RackSettings) (j : Slot) :
    WorkSteps reads swaps (s.slot j) ((putSettings v s).slot j) := by
  have hset : PowerSound (s.modMgmt fun m => { m with settings := v.clamped }) := powerSound_of_slots hp rfl rfl
  have hbudget : WorkSteps reads swaps (s.slot j)
      ((handBudget s.settings (s.modMgmt fun m => { m with settings := v.clamped })).slot j) := by
    unfold handBudget; split
    · exact reevaluateClaims_steps hset j
    · exact .refl _
  have hadmission : ∀ u : State, WorkSteps reads swaps (u.slot j) ((handAdmission s.settings u).slot j) := fun u => by
    unfold handAdmission; split
    · exact eachSlot_steps (fun k u j => admissionGate_steps j k u) allSlots u j
    · exact .refl _
  have htiming : ∀ u : State, (handTiming s.settings u).slot j = u.slot j := fun u => by
    unfold handTiming; split <;> rfl
  rw [putSettings, htiming]
  exact hbudget.then (hadmission _)

end

/-! ## Presence stands -/

theorem setMode_presence (k : Slot) (m : Mode) (s : State) : (setMode k m s).presence = s.presence := by
  unfold setMode
  dsimp only
  split
  · rfl
  · split
    · exact admissionGate_presence ..
    · rfl

theorem identCompletion_presence (x : Transaction) (o : SegmentOutcome) (s : State) :
    (identCompletion x o s).presence = s.presence := by
  have hend := identCompletion_end x o s
  revert hend
  generalize identCompletion x o s = t
  rintro (_ | _ | _ | _ | _ | _)
  · rfl
  · rfl
  · exact reportFault_presence ..
  · exact reportFault_presence ..
  · exact requestClaim_presence ..
  · rfl

theorem completeTransaction_presence (x : Transaction) (c : Completion) (s : State) :
    (completeTransaction x c s).presence = s.presence := by
  cases hx : x.origin with
  | sequencer =>
    rw [completeTransaction_of_sequencer c s hx]
    have hend := downloadCompletion_end x c s
    revert hend
    generalize downloadCompletion x c s = t
    rintro (_ | _ | _ | _ | _)
    · rfl
    · rfl
    · rfl
    · rfl
    · exact reportFault_presence ..
  | passThrough =>
    rw [completeTransaction_of_passThrough c s hx, passThroughCompletion]
    split <;> rfl

theorem putSettings_presence (v : RackSettings) (s : State) : (putSettings v s).presence = s.presence := by
  have hbudget : ∀ u : State, (handBudget s.settings u).presence = u.presence := fun u => by
    unfold handBudget; split
    · exact reevaluateClaims_presence u
    · rfl
  have hadmission : ∀ u : State, (handAdmission s.settings u).presence = u.presence := fun u => by
    unfold handAdmission; split
    · exact eachSlot_same State.presence _ (fun k v => admissionGate_presence v k) u
    · rfl
  have htiming : ∀ u : State, (handTiming s.settings u).presence = u.presence := fun u => by
    unfold handTiming; split <;> rfl
  rw [putSettings, htiming, hadmission, hbudget]
  rfl

theorem retryParked_presence (b : BuildState) (k : Slot) : (retryParked b k).state.presence = b.state.presence := by
  unfold retryParked
  split
  · unfold reportPlaced; split <;> rfl
  · unfold reportParked; split <;> rfl

theorem applyAdd_presence (b : BuildState) (k : Slot) : (applyAdd b k).state.presence = b.state.presence := by
  unfold applyAdd
  split
  · unfold reportPlaced; split <;> rfl
  · unfold reportParked; split <;> rfl

theorem runBuild_presence (s : State) : (runBuild s).presence = s.presence := by
  have hoffer : ∀ l b, (offerMap l b).presence = b.state.presence := fun l b => by
    unfold offerMap; dsimp only; split <;> rfl
  rw [runBuild, hoffer, foldl_build_same State.presence _ applyAdd_presence,
    foldl_build_same State.presence _ retryParked_presence]
  rfl

theorem swapMaps_presence (s : State) : (swapMaps s).presence = s.presence := by
  have hswap : ∀ k u, (reportSwapped k u).presence = u.presence := by
    intro k u
    unfold reportSwapped
    split
    · split <;> rfl
    · rfl
  unfold swapMaps
  split
  · rw [postNotice_presence, eachSlot_same State.presence _ hswap]; rfl
  · rfl

theorem serveFrame_presence (f : HeldFrame) (s : State) : (serveFrame f s).presence = s.presence := by
  unfold serveFrame
  dsimp only [startExchange, State.modCycle_presence]
  rw [foldl_same _ State.presence (fun s e => copyOutput f.output e s)]
  · cases f.frameClass
    · rfl
    · exact swapMaps_presence s
  · intro u e; unfold copyOutput; split <;> rfl

theorem acceptFrame_presence (f : HeldFrame) (g : Nat) (long : Bool) (s : State) :
    (acceptFrame f g long s).presence = s.presence := by
  have htaken : (frameTaken f g long s).presence = s.presence := by
    unfold frameTaken; cases long <;> split <;> rfl
  rw [acceptFrame_eq]
  split
  · rw [serveFrame_presence, htaken]
  · exact htaken

theorem accountSlot_presence (limit : Nat) (s : State) (p : Addressed × WindowOutcome) :
    (accountSlot limit s p).presence = s.presence := by
  obtain ⟨a, o⟩ := p
  obtain hs | ⟨-, -, ⟨data, diag, -, hs⟩ | ⟨-, -, hs⟩ | ⟨-, -, hs⟩⟩ := accountSlot_cases (s := s) limit a o <;> rw [hs]
  · unfold takeResponse; dsimp only; split <;> rfl
  · rfl
  · exact faultEntry_presence ..

/-! ## The commands -/

/-- The commands that tell of a card, clear a quarantine or reset the coupler: they move presence or card as well. -/
inductive CardEvent (s : State) : State → Prop
  | lineAsserted (k : Slot) : CardEvent s (lineAsserted k s)
  | lineDeasserted (k : Slot) : CardEvent s (lineDeasserted k s)
  | inserted (k : Slot) (d : Nat) (e : Epoch) (h : (s.pres k).timer = .insertion d e) :
      CardEvent s (cardArrived k e (s.modPres k fun r => { r with phase := .seated, timer := .stopped }))
  | removed (k : Slot) (d : Nat) (h : (s.pres k).timer = .removal d) :
      CardEvent s (cardGone k (s.modPres k fun r => { r with phase := .absent, timer := .stopped, auxSupply := false }))
  | quarantinedCleared (k : Slot) (h : (s.slot k).state = .quarantined) : CardEvent s (clearQuarantined k s)
  | restarted : CardEvent s (restartAll s)

/-- Every slot record makes a run of moves, and presence stands; identity is read only for an attempt, and RUNNING entered
only by a swap. -/
structure Worked (s t : State) : Prop where
  steps : ∀ k, WorkSteps ((s.attempt k).isSome = true)
    (∃ m e, s.maps.offered = some m ∧ entryOf m.entries k = some e ∧ e.epoch = (s.slot k).epoch) (s.slot k) (t.slot k)
  presence : t.presence = s.presence

theorem Worked.of_slots {s t : State} (hs : t.slots = s.slots) (hp : t.presence = s.presence) : Worked s t :=
  ⟨fun k => .of_eq (slot_of_slots hs k), hp⟩

theorem Served.worked {s t : State} (hp : PowerSound s) (h : Served s t) : CardEvent s t ∨ Worked s t := by
  cases h with
  | modeSet k m => exact .inr ⟨fun j => setMode_steps j k m s, setMode_presence k m s⟩
  | started k hx _ => exact .inr ⟨fun j => enterState_steps j k .identifying (WorkStep.admitted hx).steps, rfl⟩
  | stopped k hx => exact .inr ⟨fun j => stopSlot_steps hp j k hx, withdraw_presence s k⟩
  | faultedCleared k hx => exact .inr ⟨fun j => clearFaulted_steps j k hx, by rw [clearFaulted, admissionGate_presence]; rfl⟩
  | quarantinedCleared k hx => exact .inl (.quarantinedCleared k hx)
  | profilesPurged => rw [foldl_setProfile_frame]; exact .inr (.of_slots rfl rfl)
  | settingsPut args r _ _ => exact .inr ⟨fun j => putSettings_steps hp r j, putSettings_presence r s⟩
  | restarted => exact .inl .restarted
  | _ => exact .inr (.of_slots rfl rfl)

theorem Effect.worked {s t : State} (hp : PowerSound s) (h : Effect s t) : CardEvent s t ∨ Worked s t := by
  have hover : PowerSound (segmentOver s) := powerSound_of_slots hp rfl rfl
  cases h with
  | served h => exact h.worked hp
  | lineAsserted k => exact .inl (.lineAsserted k)
  | lineDeasserted k => exact .inl (.lineDeasserted k)
  | inserted k d e h => exact .inl (.inserted k d e h)
  | removed k d h => exact .inl (.removed k d h)
  | identCompleted g x _ _ o => exact .inr ⟨fun j => (identCompletion_end x o (segmentOver s)).steps hover j, identCompletion_presence x o _⟩
  | completed g x _ _ c => exact .inr ⟨fun j => completeTransaction_steps hover x c j, completeTransaction_presence x c _⟩
  | rampGood k _ hr => exact .inr ⟨fun j => rampGood_steps hp hr j, startRamp_presence _⟩
  | rampBad k _ _ =>
    unfold Machine.rampBad; split
    · exact .inr ⟨fun j => reportFault_steps hp j k _ _ _ (by simp), reportFault_presence ..⟩
    · exact .inr (.of_slots rfl rfl)
  | rampDiscarded k ht hr => rw [rampEndTaken_of_sound s k hp ht] at hr; cases hr
  | powerLost k _ c _ =>
    exact .inr ⟨fun j => reportFault_steps (s := s.modPow k fun r => { r with filter := false })
      (modPow_powerSound hp k (fun r => { r with filter := false }) (fun _ => ⟨rfl, rfl, rfl, rfl⟩) (by simp)) j k _ _ _
        (by simp), reportFault_presence ..⟩
  | configTimedOut k d _ =>
    exact .inr ⟨fun j => reportFault_steps (powerSound_of_slots (t := s.setDownload k none) hp rfl rfl) j k _ _ _
      (by simp), reportFault_presence ..⟩
  | built _ => exact .inr ⟨fun j => (runBuild_slot (s := s) j).steps, runBuild_presence s⟩
  | frameAccepted _ f g long _ =>
    refine .inr ⟨fun j => ?_, acceptFrame_presence f g long s⟩
    obtain hs | ⟨m, hm, hs⟩ := acceptFrame_slot (s := s) f g long j
    · exact .of_eq hs
    · exact hs.steps fun ⟨e, he, hep⟩ => ⟨m, e, hm, he, hep⟩
  | frameServed f _ _ =>
    refine .inr ⟨fun j => ?_, serveFrame_presence f _⟩
    obtain hs | ⟨m, hm, hs⟩ := serveFrame_slot (s := s.modCycle fun c => { c with holder := none }) f j
    · exact .of_eq hs
    · exact hs.steps fun ⟨e, he, hep⟩ => ⟨m, e, hm, he, hep⟩
  | accounted x _ _ _ =>
    exact .inr ⟨fun j => accounted_steps (s := s.modCycle fun c => { c with exchange := none })
      (powerSound_of_slots hp rfl rfl) _ _ j,
      foldl_same _ State.presence _ (fun u p => accountSlot_presence (missLimit s) u p) _⟩
  | _ => exact .inr (.of_slots rfl rfl)

end Sys2Proof.Machine
end

section
/-!
PROOF. Presence against the slot records (R27 to R38) and the slot records' own fields (R2, R9, R11): the moves of
Machine's sequencer keep both, and so do the commands that tell of a card, clear a quarantine or restart.
-/
namespace Sys2Proof.Machine

/-! ## What the moves of a slot record leave -/

/-- A state in which no card is at work: the card is not there, or not accepted. -/
def SlotState.cardless (x : SlotState) : Bool := x == .empty || x == .settling || x == .quarantined

/-- A move leaves card and epoch, and a cardless state; any other state it may make QUARANTINED, but never EMPTY or
SETTLING. -/
theorem WorkStep.card {reads swaps : Prop} {r r' : SlotRecord} (h : WorkStep reads swaps r r') :
    r'.cardPresent = r.cardPresent ∧ r'.epoch = r.epoch
      ∧ (r'.state = r.state ∨ (r.state.cardless = false ∧ r'.state ≠ .empty ∧ r'.state ≠ .settling)) := by
  cases h with
  | modeChosen => exact ⟨rfl, rfl, .inl rfl⟩
  | stopped h =>
    refine ⟨rfl, rfl, .inr ⟨?_, by simp, by simp⟩⟩
    revert h
    cases r.state <;> decide
  | faulted reason code h =>
    refine ⟨rfl, rfl, .inr ⟨?_, ?_⟩⟩
    · have hwork := takenIn_bringUp h
      revert hwork
      cases r.state <;> decide
    · dsimp only [faultedRecord]
      split <;> simp
  | identityRead => exact ⟨rfl, rfl, .inl rfl⟩
  | parked => exact ⟨rfl, rfl, .inl rfl⟩
  | answered => unfold countAnswered; split <;> exact ⟨rfl, rfl, .inl rfl⟩
  | missed => exact ⟨rfl, rfl, .inl rfl⟩
  | claimParked _ h => exact ⟨rfl, rfl, .inr ⟨by rw [h]; rfl, by simp, by simp⟩⟩
  | claimGranted _ h => exact ⟨rfl, rfl, .inr ⟨by rw [h]; rfl, by simp, by simp⟩⟩
  | _ h => exact ⟨rfl, rfl, .inr ⟨by rw [h]; rfl, by simp, by simp⟩⟩

/-! ## Presence of one slot -/

/-- One slot's presence record against its slot record, as the table of R27 has it. -/
def PresenceFor (p : PresenceRecord) (r : SlotRecord) : Prop :=
  p.auxSupply = r.cardPresent
    ∧ match p.phase with
      | .absent => p.line = false ∧ p.timer = .stopped ∧ r.cardPresent = false ∧ (r.state = .empty ∨ r.state = .quarantined)
      | .inserting => p.line = true ∧ (∃ d, p.timer = .insertion d r.epoch) ∧ r.cardPresent = false
          ∧ (r.state = .settling ∨ r.state = .quarantined)
      | .seated => p.line = true ∧ p.timer = .stopped ∧ r.cardPresent = true ∧ r.state ≠ .empty ∧ r.state ≠ .settling
      | .removing => p.line = false ∧ (∃ d, p.timer = .removal d) ∧ r.cardPresent = true ∧ r.state ≠ .empty
          ∧ r.state ≠ .settling

theorem presenceSound_iff (s : State) : PresenceSound s ↔ ∀ k, PresenceFor (s.pres k) (s.slot k) := Iff.rfl

theorem PresenceFor.work {reads swaps : Prop} {p : PresenceRecord} {r r' : SlotRecord} (h : PresenceFor p r)
    (hs : WorkSteps reads swaps r r') : PresenceFor p r' := by
  refine hs.keeps (P := PresenceFor p) (fun r r' hstep hr => ?_) h
  obtain ⟨hcard, hepoch, hstate⟩ := hstep.card
  obtain ⟨haux, hphase⟩ := hr
  refine ⟨by rw [haux, hcard], ?_⟩
  obtain hsame | ⟨hwork, hne⟩ := hstate
  · rw [hcard, hepoch, hsame]
    exact hphase
  · revert hphase
    cases p.phase with
    | absent => rintro ⟨-, -, -, hx | hx⟩ <;> rw [hx] at hwork <;> cases hwork
    | inserting => rintro ⟨-, -, -, hx | hx⟩ <;> rw [hx] at hwork <;> cases hwork
    | seated => rintro ⟨hline, htimer, hc, -⟩; exact ⟨hline, htimer, hcard.trans hc, hne⟩
    | removing => rintro ⟨hline, htimer, hc, -⟩; exact ⟨hline, htimer, hcard.trans hc, hne⟩

/-- A slot whose line may have been asserted while it was not watched: its presence stands as for a deasserted line. -/
def PresenceAwaits (p : PresenceRecord) (r : SlotRecord) : Prop :=
  PresenceFor p r ∨ (p.line = true ∧ p.phase = .absent ∧ r.state = .empty ∧ PresenceFor { p with line := false } r)

/-! ## Presence lines -/

section
variable {s : State}

theorem lineAsserted_pres_of_ne {j k : Slot} (h : j ≠ k) : (lineAsserted k s).pres j = s.pres j := by
  unfold lineAsserted startInsertion
  dsimp only
  split
  · split
    · rw [State.pres, enterState_presence]; exact State.modPres_pres_of_ne _ h _
    · exact State.modPres_pres_of_ne _ h _
  all_goals exact State.modPres_pres_of_ne _ h _

theorem lineDeasserted_pres_of_ne {j k : Slot} (h : j ≠ k) : (lineDeasserted k s).pres j = s.pres j := by
  unfold lineDeasserted
  dsimp only
  split
  · split
    · rw [State.modSlot_pres]; exact State.modPres_pres_of_ne _ h _
    · exact State.modPres_pres_of_ne _ h _
  all_goals exact State.modPres_pres_of_ne _ h _

theorem lineAsserted_slot_of_ne {j k : Slot} (h : j ≠ k) : (lineAsserted k s).slot j = s.slot j :=
  (lineAsserted_slot j k).resolve_right fun h' => h h'.1

theorem lineDeasserted_slot_of_ne {j k : Slot} (h : j ≠ k) : (lineDeasserted k s).slot j = s.slot j :=
  (lineDeasserted_slot j k).resolve_right fun h' => h h'.1

theorem lineAsserted_presenceFor (k : Slot) (h : PresenceAwaits (s.pres k) (s.slot k)) :
    PresenceFor ((lineAsserted k s).pres k) ((lineAsserted k s).slot k) := by
  have habsent : (s.pres k).phase = .absent → (s.pres k).auxSupply = false ∧ (s.slot k).cardPresent = false
      ∧ ((s.slot k).state = .empty ∨ (s.slot k).state = .quarantined) := by
    intro hp
    obtain ⟨haux, hphase⟩ | ⟨-, -, -, haux, hphase⟩ := h
    · rw [hp] at hphase
      obtain ⟨-, -, hc, hx⟩ := hphase
      exact ⟨haux.trans hc, hc, hx⟩
    · dsimp only at haux hphase
      rw [hp] at hphase
      obtain ⟨-, -, hc, hx⟩ := hphase
      exact ⟨haux.trans hc, hc, hx⟩
  have hother : (s.pres k).phase ≠ .absent → PresenceFor (s.pres k) (s.slot k) := fun hp =>
    h.resolve_right fun h' => hp h'.2.1
  unfold lineAsserted startInsertion
  dsimp only
  split
  · rename_i hp
    obtain ⟨haux, hc, hx⟩ := habsent hp
    split
    · rename_i hempty
      rw [State.pres, enterState_presence, enterState_slot_same]
      refine (fun hpres => ?_ : _) (State.modPres_pres_same s k fun r =>
        { r with phase := .inserting, timer := .insertion s.settings.insertionDebounce (s.slot k).epoch, line := true })
      rw [State.pres] at hpres
      rw [hpres, State.modPres_slot]
      exact ⟨haux.trans hc.symm, rfl, ⟨_, rfl⟩, hc, .inl rfl⟩
    · rename_i hempty
      rw [State.modPres_pres_same, State.modPres_slot]
      exact ⟨haux.trans hc.symm, rfl, ⟨_, rfl⟩, hc, .inr (hx.resolve_left hempty)⟩
  · rename_i hp
    obtain ⟨haux, hphase⟩ := hother (by rw [hp]; simp)
    rw [hp] at hphase
    obtain ⟨-, -, hc, hx⟩ := hphase
    rw [State.modPres_pres_same, State.modPres_slot]
    exact ⟨haux, rfl, rfl, hc, hx⟩
  · rename_i hp
    obtain ⟨haux, hphase⟩ := hother (by rw [hp]; simp)
    rw [hp] at hphase
    rw [State.modPres_pres_same, State.modPres_slot]
    refine ⟨haux, ?_⟩
    dsimp only
    rw [hp]
    exact ⟨rfl, hphase.2⟩
  · rename_i hp
    obtain ⟨haux, hphase⟩ := hother (by rw [hp]; simp)
    rw [hp] at hphase
    rw [State.modPres_pres_same, State.modPres_slot]
    refine ⟨haux, ?_⟩
    dsimp only
    rw [hp]
    exact ⟨rfl, hphase.2⟩

theorem lineDeasserted_presenceFor (k : Slot) (h : PresenceFor (s.pres k) (s.slot k)) :
    PresenceFor ((lineDeasserted k s).pres k) ((lineDeasserted k s).slot k) := by
  obtain ⟨haux, hphase⟩ := h
  unfold lineDeasserted
  dsimp only
  split <;> rename_i hp <;> rw [hp] at hphase
  · obtain ⟨-, -, hc, hx⟩ := hphase
    split
    · rw [State.modSlot_pres, State.modSlot_slot_same, State.modPres_pres_same, State.modPres_slot]
      exact ⟨haux, rfl, rfl, hc, .inl rfl⟩
    · rename_i hsettling
      rw [State.modPres_pres_same, State.modPres_slot]
      exact ⟨haux, rfl, rfl, hc, .inr (hx.resolve_left hsettling)⟩
  · obtain ⟨-, -, hc, hx⟩ := hphase
    rw [State.modPres_pres_same, State.modPres_slot]
    exact ⟨haux, rfl, ⟨_, rfl⟩, hc, hx⟩
  · rw [State.modPres_pres_same, State.modPres_slot]
    refine ⟨haux, ?_⟩
    dsimp only
    rw [hp]
    exact ⟨rfl, hphase.2⟩
  · rw [State.modPres_pres_same, State.modPres_slot]
    refine ⟨haux, ?_⟩
    dsimp only
    rw [hp]
    exact ⟨rfl, hphase.2⟩

/-! ## Cards that come and go -/

/-- The insertion debounce runs only for a slot whose epoch it bears, with its line asserted and no card present. -/
theorem PresenceFor.of_insertion {p : PresenceRecord} {r : SlotRecord} (h : PresenceFor p r) {d : Nat} {e : Epoch}
    (ht : p.timer = .insertion d e) :
    e = r.epoch ∧ p.line = true ∧ r.cardPresent = false ∧ (r.state = .settling ∨ r.state = .quarantined) := by
  obtain ⟨-, hphase⟩ := h
  revert hphase
  cases p.phase with
  | absent => rintro ⟨-, hstop, -⟩; rw [hstop] at ht; cases ht
  | inserting =>
    rintro ⟨hline, ⟨d', hd⟩, hc, hx⟩
    rw [hd] at ht
    cases ht
    exact ⟨rfl, hline, hc, hx⟩
  | seated => rintro ⟨-, hstop, -⟩; rw [hstop] at ht; cases ht
  | removing => rintro ⟨-, ⟨d', hd⟩, -⟩; rw [hd] at ht; cases ht

/-- The removal debounce runs only for a card that is present, with its line deasserted. -/
theorem PresenceFor.of_removal {p : PresenceRecord} {r : SlotRecord} (h : PresenceFor p r) {d : Nat}
    (ht : p.timer = .removal d) : p.line = false ∧ r.cardPresent = true ∧ r.state ≠ .empty ∧ r.state ≠ .settling := by
  obtain ⟨-, hphase⟩ := h
  revert hphase
  cases p.phase with
  | absent => rintro ⟨-, hstop, -⟩; rw [hstop] at ht; cases ht
  | inserting => rintro ⟨-, ⟨d', hd⟩, -⟩; rw [hd] at ht; cases ht
  | seated => rintro ⟨-, hstop, -⟩; rw [hstop] at ht; cases ht
  | removing => rintro ⟨hline, -, hc, hx⟩; exact ⟨hline, hc, hx⟩

/-- A card that arrives for a slot whose debounce bore its epoch (R31). -/
theorem cardArrived_of_current (k : Slot) (e : Epoch)
    (hx : (s.slot k).state = .settling ∨ (s.slot k).state = .quarantined) (he : e = (s.slot k).epoch) :
    ∃ x, (((s.slot k).state = .quarantined ∧ x = .quarantined) ∨ x = .present ∨ x = .identifying)
      ∧ (cardArrived k e s).slot k = { s.slot k with epoch := (s.slot k).epoch + 1, cardPresent := true, state := x }
      ∧ (cardArrived k e s).pres k = { s.pres k with auxSupply := true } := by
  unfold cardArrived
  have hcur : current s k e = true := by simp [current, he]
  rw [if_pos ⟨hx, hcur⟩]
  dsimp only
  split
  · rename_i hs
    have hpres : ∀ u : State, (admissionGate k (enterState k .present u)).pres k = u.pres k := fun u => by
      rw [State.pres, admissionGate_presence]; rfl
    rw [hpres, State.modPres_pres_same, State.modSlot_pres]
    obtain h | ⟨-, -, -, h⟩ := admissionGate_slot (j := k) (k := k) (s := enterState k .present
      ((s.modSlot k fun r => { r with epoch := r.epoch + 1, cardPresent := true }).modPres k fun r =>
        { r with auxSupply := true }))
    · exact ⟨.present, .inr (.inl rfl), by rw [h, enterState_slot_same, State.modPres_slot, State.modSlot_slot_same], rfl⟩
    · exact ⟨.identifying, .inr (.inr rfl),
        by rw [h, enterState_slot_same, State.modPres_slot, State.modSlot_slot_same], rfl⟩
  · rename_i hs
    have hq := hx.resolve_left hs
    exact ⟨.quarantined, .inl ⟨hq, rfl⟩, by rw [State.modPres_slot, State.modSlot_slot_same, ← hq],
      by rw [State.modPres_pres_same, State.modSlot_pres]⟩

theorem cardArrived_slot_of_ne {j k : Slot} (h : j ≠ k) (e : Epoch) : (cardArrived k e s).slot j = s.slot j :=
  (cardArrived_slot j k e).resolve_right fun h' => h h'.1

theorem cardArrived_pres_of_ne {j k : Slot} (h : j ≠ k) (e : Epoch) : (cardArrived k e s).pres j = s.pres j := by
  unfold cardArrived
  split
  · dsimp only
    split
    · rw [State.pres, admissionGate_presence]
      exact State.modPres_pres_of_ne _ h _
    · exact State.modPres_pres_of_ne _ h _
  · rfl

theorem emptySlot_presence (k : Slot) (u : State) : (emptySlot k u).presence = u.presence := by
  unfold emptySlot; split <;> rfl

theorem cardGone_presence (k : Slot) (u : State) : (cardGone k u).presence = u.presence := by
  unfold cardGone
  rw [withdraw_presence]
  split
  · exact emptySlot_presence k u
  · rfl

/-- What "card gone" leaves of a slot's record (R34, R35). -/
theorem cardGone_slot_same (k : Slot) (h : (s.slot k).state.takesCardGone = true) :
    (cardGone k s).slot k =
      if (s.slot k).state = .quarantined then
        { s.slot k with cardPresent := false, identity := none, profileIndex := none, parkReason := none }
      else
        { s.slot k with state := .empty, cardPresent := false, identity := none, profileIndex := none
                        parkReason := none, faultReason := none, cardCode := none } := by
  rw [cardGone, if_pos h, withdraw_slot_same, emptySlot_slot, if_pos rfl]
  split <;> rfl

theorem cardGone_slot_off (k : Slot) (h : (s.slot k).state.takesCardGone = false) :
    (cardGone k s).slot k = { s.slot k with parkReason := none } := by
  rw [cardGone, if_neg (by simp [h]), withdraw_slot_same]

theorem cardGone_slot_of_ne {j k : Slot} (h : j ≠ k) : PowerMove s (cardGone k s) j := by
  unfold cardGone
  split
  · have hmove : PowerMove (emptySlot k s) (withdraw k (emptySlot k s)) j := withdraw_slot_of_ne h
    unfold PowerMove at hmove ⊢
    rwa [emptySlot_power, emptySlot_slot, if_neg h] at hmove
  · exact withdraw_slot_of_ne h

theorem cardGone_steps {reads swaps : Prop} (hp : PowerSound s) {j k : Slot} (h : j ≠ k) :
    WorkSteps reads swaps (s.slot j) ((cardGone k s).slot j) := (cardGone_slot_of_ne h).steps hp

/-- A quarantine is cleared to the state that stands for the card's presence (R22). -/
theorem clearQuarantined_presenceFor {k : Slot} (h : PresenceFor (s.pres k) (s.slot k)) :
    PresenceFor (s.pres k) { s.slot k with
      state := clearedState s k, faultRun := 0, mode := .manual, faultReason := none, cardCode := none
      profileIndex := none } := by
  obtain ⟨haux, hphase⟩ := h
  refine ⟨haux, ?_⟩
  dsimp only
  cases hp : (s.pres k).phase <;> rw [hp] at hphase
  case absent =>
    obtain ⟨hline, htimer, hc, -⟩ := hphase
    exact ⟨hline, htimer, hc, .inl (by simp [clearedState, hc, hp])⟩
  case inserting =>
    obtain ⟨hline, htimer, hc, -⟩ := hphase
    exact ⟨hline, htimer, hc, .inl (by simp [clearedState, hc, hp])⟩
  case seated =>
    obtain ⟨hline, htimer, hc, -⟩ := hphase
    exact ⟨hline, htimer, hc, by simp [clearedState, hc], by simp [clearedState, hc]⟩
  case removing =>
    obtain ⟨hline, htimer, hc, -⟩ := hphase
    exact ⟨hline, htimer, hc, by simp [clearedState, hc], by simp [clearedState, hc]⟩

/-! ## Resets -/

/-- A run over slots, each of which is taken from one condition to another by its own turn and kept in both by the
turns of the others. -/
theorem eachSlot_each {Before After : Slot → State → Prop} {act : Slot → State → State}
    (hturn : ∀ k u, Before k u → After k (act k u))
    (hbefore : ∀ k j u, j ≠ k → Before j u → Before j (act k u))
    (hafter : ∀ k j u, j ≠ k → After j u → After j (act k u)) (ks : List Slot) (hks : ks.Nodup) (u : State)
    (h : ∀ k, (k ∈ ks → Before k u) ∧ (k ∉ ks → After k u)) (k : Slot) : After k (eachSlot ks act u) := by
  induction ks generalizing u with
  | nil => exact (h k).2 (List.not_mem_nil)
  | cons i ks ih =>
    obtain ⟨hi, hks⟩ := List.nodup_cons.mp hks
    refine ih hks (act i u) fun j => ⟨fun hj => ?_, fun hj => ?_⟩
    · exact hbefore i j u (fun hji => hi (hji ▸ hj)) ((h j).1 (List.mem_cons_of_mem i hj))
    · by_cases hji : j = i
      · rw [hji]; exact hturn i u ((h i).1 List.mem_cons_self)
      · exact hafter i j u hji ((h j).2 (by simp [hji, hj]))

theorem allSlots_nodup : allSlots.Nodup := by decide

theorem mem_allSlots (k : Slot) : k ∈ allSlots := by
  revert k
  decide

/-- Lines seen asserted at the end of a reset: presence then stands in every slot. -/
theorem eachSlot_lines_presenceFor {act : Slot → State → State} (u : State)
    (hact : ∀ k v, act k v = lineAsserted k v
      ∨ (act k v = v ∧ ((v.pres k).line = false ∨ (v.slot k).cardPresent = true)))
    (h : ∀ k, PresenceAwaits (u.pres k) (u.slot k)) (k : Slot) :
    PresenceFor ((eachSlot allSlots act u).pres k) ((eachSlot allSlots act u).slot k) := by
  have hother : ∀ k j v, j ≠ k → (act k v).pres j = v.pres j ∧ (act k v).slot j = v.slot j := fun k j v hj => by
    obtain hs | ⟨hs, -⟩ := hact k v <;> rw [hs]
    · exact ⟨lineAsserted_pres_of_ne hj, lineAsserted_slot_of_ne hj⟩
    · exact ⟨rfl, rfl⟩
  refine eachSlot_each (Before := fun k v => PresenceAwaits (v.pres k) (v.slot k))
    (After := fun k v => PresenceFor (v.pres k) (v.slot k)) (fun k v hv => ?_) (fun k j v hj hv => ?_)
    (fun k j v hj hv => ?_) allSlots allSlots_nodup u (fun k => ⟨fun _ => h k, fun hk => absurd (mem_allSlots k) hk⟩) k
  · obtain hs | ⟨hs, hline⟩ := hact k v <;> rw [hs]
    · exact lineAsserted_presenceFor k hv
    · refine hv.resolve_right ?_
      rintro ⟨hl, hp, -, -, hphase⟩
      dsimp only at hphase
      rw [hp] at hphase
      obtain ⟨-, -, hnone, -⟩ := hphase
      obtain hline | hc := hline
      · rw [hline] at hl; cases hl
      · rw [hnone] at hc; cases hc
  · obtain ⟨hp, hs⟩ := hother k j v hj; rw [hp, hs]; exact hv
  · obtain ⟨hp, hs⟩ := hother k j v hj; rw [hp, hs]; exact hv

theorem coldState_pres (k : Slot) (u : State) : (coldState u).pres k = PresenceRecord.reset (u.pres k).line :=
  look_amendAll u.presence (fun r => PresenceRecord.reset r.line) k

theorem coldReset_presenceSound (u : State) : PresenceSound (eachSlot allSlots redetect (coldState u)) := by
  refine (presenceSound_iff _).mpr (eachSlot_lines_presenceFor _ (fun k v => ?_) fun k => ?_)
  · unfold redetect
    split
    · exact .inl rfl
    · rename_i h; exact .inr ⟨rfl, .inl (by simpa using h)⟩
  · rw [coldState_pres, coldState_slot]
    have hfor : PresenceFor (PresenceRecord.reset false) SlotRecord.reset := ⟨rfl, rfl, rfl, rfl, .inl rfl⟩
    cases hline : (u.pres k).line with
    | false => exact .inl hfor
    | true => exact .inr ⟨rfl, rfl, rfl, hfor⟩

theorem restartBlocks_pres (k : Slot) (u : State) :
    (restartBlocks u).pres k = restartPresence u.settings (u.slot k).cardPresent (u.pres k) :=
  look_ofFn (fun k => restartPresence u.settings (u.slot k).cardPresent (u.pres k)) k

theorem restartBlocks_awaits (u : State) (haux : ∀ k, (u.pres k).auxSupply = (u.slot k).cardPresent) (k : Slot) :
    PresenceAwaits ((restartBlocks u).pres k) ((restartBlocks u).slot k) := by
  rw [restartBlocks_pres, restartBlocks_slot]
  have haux := haux k
  cases hc : (u.slot k).cardPresent <;> cases hl : (u.pres k).line <;> rw [hc] at haux <;>
    simp [PresenceAwaits, PresenceFor, restartPresence, restartSlot, hc, hl, haux]

theorem restartAll_presenceFor (haux : ∀ k, (s.pres k).auxSupply = (s.slot k).cardPresent) (k : Slot) :
    PresenceFor ((restartAll s).pres k) ((restartAll s).slot k) := by
  have hlines := eachSlot_lines_presenceFor (act := resumeInsertion) (restartBlocks s) (fun k v => by
    unfold resumeInsertion
    split
    · exact .inl rfl
    · rename_i h
      refine .inr ⟨rfl, ?_⟩
      revert h
      cases (v.pres k).line <;> cases (v.slot k).cardPresent <;> simp) (restartBlocks_awaits s haux) k
  have hgates := eachSlot_same State.presence allSlots (fun k v => admissionGate_presence v k)
    (eachSlot allSlots resumeInsertion (restartBlocks s))
  rw [restartAll, State.pres, hgates]
  exact hlines.work (eachSlot_steps (reads := False) (swaps := False) (fun k u j => admissionGate_steps j k u) _ _ k)

theorem CardEvent.keeps_presenceSound {t : State} (hp : PowerSound s) (h : PresenceSound s) (hd : CardEvent s t) :
    PresenceSound t := by
  rw [presenceSound_iff] at h ⊢
  intro j
  cases hd with
  | lineAsserted k =>
    by_cases hj : j = k
    · rw [hj]; exact lineAsserted_presenceFor k (.inl (h k))
    · rw [lineAsserted_pres_of_ne hj, lineAsserted_slot_of_ne hj]; exact h j
  | lineDeasserted k =>
    by_cases hj : j = k
    · rw [hj]; exact lineDeasserted_presenceFor k (h k)
    · rw [lineDeasserted_pres_of_ne hj, lineDeasserted_slot_of_ne hj]; exact h j
  | inserted k d e ht =>
    by_cases hj : j = k
    · obtain ⟨he, hline, -, hx⟩ := (h k).of_insertion ht
      obtain ⟨x, hxs, hslot, hpres⟩ := cardArrived_of_current (s := s.modPres k fun r =>
        { r with phase := .seated, timer := .stopped }) k e hx he
      rw [hj, hslot, hpres, State.modPres_pres_same]
      refine ⟨rfl, hline, rfl, rfl, ?_⟩
      obtain ⟨-, rfl⟩ | rfl | rfl := hxs <;> simp
    · rw [cardArrived_pres_of_ne hj, cardArrived_slot_of_ne hj, State.modPres_pres_of_ne _ hj]; exact h j
  | removed k d ht =>
    have hpres : PowerSound (s.modPres k fun r => { r with phase := .absent, timer := .stopped, auxSupply := false }) :=
      powerSound_of_slots hp rfl rfl
    rw [State.pres, cardGone_presence]
    by_cases hj : j = k
    · obtain ⟨hline, -, hempty, hsettling⟩ := (h k).of_removal ht
      have htakes : ((s.modPres k fun r => { r with phase := .absent, timer := .stopped, auxSupply := false }).slot
          k).state.takesCardGone = true := by
        rw [State.modPres_slot]
        cases hx : (s.slot k).state <;> first | rfl | exact absurd hx hempty | exact absurd hx hsettling
      rw [hj, cardGone_slot_same k htakes]
      have hrecord := State.modPres_pres_same s k fun r => { r with phase := .absent, timer := .stopped, auxSupply := false }
      rw [State.pres] at hrecord
      rw [hrecord]
      split
      · rename_i hq; exact ⟨rfl, hline, rfl, rfl, .inr hq⟩
      · exact ⟨rfl, hline, rfl, rfl, .inl rfl⟩
    · refine PresenceFor.work (reads := False) (swaps := False) ?_ (cardGone_steps hpres hj)
      have hrecord := State.modPres_pres_of_ne s hj fun r => { r with phase := .absent, timer := .stopped, auxSupply := false }
      rw [State.pres] at hrecord
      rw [hrecord]
      exact h j
  | quarantinedCleared k hx =>
    rw [clearQuarantined_slot]
    by_cases hj : j = k
    · rw [if_pos hj, hj]
      exact clearQuarantined_presenceFor (h k)
    · rw [if_neg hj]; exact h j
  | restarted => exact restartAll_presenceFor (fun k => (h k).1) j

/-- Every command keeps presence, the Power Controller being sound. -/
theorem Done.keeps_presenceSound {t : State} (hp : PowerSound s) (h : PresenceSound s) (hd : Done s t) :
    PresenceSound t := by
  obtain ⟨u, he, hposted⟩ := hd
  have hu : PresenceSound u := by
    obtain hcard | hwork := he.worked hp
    · exact hcard.keeps_presenceSound hp h
    · intro k
      have hfor := ((presenceSound_iff s).mp h k).work (hwork.steps k)
      rw [State.pres, ← hwork.presence] at hfor
      exact hfor
  intro k
  have hslots := slot_of_slots hposted.slots_eq k
  have hpres : t.pres k = u.pres k := by cases hposted <;> rfl
  rw [hpres, hslots]
  exact hu k

end

/-- Settles O10: the moves of a slot record leave card and cardless states, and each card event moves the phase with
them. -/
theorem stepKeepsPresenceSound : Obligations.StepKeepsPresenceSound := fun _ _ hp hs hstep =>
  (step_keeps (P := fun s => PowerSound s ∧ PresenceSound s) (fun _ _ h => h)
    (fun u _ => ⟨coldReset_powerSound u, coldReset_presenceSound u⟩)
    (fun _ _ h hd => ⟨hd.keeps_powerSound h.1, hd.keeps_presenceSound h.1 h.2⟩) ⟨hp, hs⟩ hstep).2

end Sys2Proof.Machine
end

section
/-!
PROOF. The slot records' own fields (R2, R9, R11) and the identity record's span: what each move of a record keeps, a
step keeps.
-/
namespace Sys2Proof.Machine

/-! ## The moves by a card or a reset -/

/-- One move of a slot record by which a card comes, settles or goes, a quarantine is cleared, or the coupler restarts. -/
inductive CardStep (r : SlotRecord) : SlotRecord → Prop
  | settling (h : r.state = .empty) : CardStep r { r with state := .settling }
  | unsettled (h : r.state = .settling) : CardStep r { r with state := .empty }
  | arrived (x : SlotState) (h : (r.state = .quarantined ∧ x = .quarantined)
        ∨ (r.state = .settling ∧ (x = .present ∨ x = .identifying))) :
      CardStep r { r with epoch := r.epoch + 1, cardPresent := true, state := x }
  | goneInQuarantine (h : r.state = .quarantined) :
      CardStep r { r with cardPresent := false, identity := none, profileIndex := none, parkReason := none }
  | gone (h : r.state ≠ .quarantined) :
      CardStep r { r with state := .empty, cardPresent := false, identity := none, profileIndex := none
                          parkReason := none, faultReason := none, cardCode := none }
  | unparked (h : r.state = .empty ∨ r.state = .settling) : CardStep r { r with parkReason := none }
  | quarantineCleared (h : r.state = .quarantined) (x : SlotState) (hx : x = .present ∨ x = .settling ∨ x = .empty) :
      CardStep r { r with state := x, faultRun := 0, mode := .manual, faultReason := none, cardCode := none
                          profileIndex := none }
  | restarted : CardStep r (restartSlot r)
  | reset : CardStep r SlotRecord.reset

/-- A run of moves of a slot record, of both kinds. -/
def RecordSteps (reads swaps : Prop) : SlotRecord → SlotRecord → Prop :=
  Relation.ReflTransGen fun r r' => CardStep r r' ∨ WorkStep reads swaps r r'

section
variable {reads swaps : Prop} {s t : State} {r r' : SlotRecord}

theorem RecordSteps.refl (r : SlotRecord) : RecordSteps reads swaps r r := Relation.ReflTransGen.refl

theorem RecordSteps.of_eq (h : r' = r) : RecordSteps reads swaps r r' := by
  rw [h]
  exact .refl r

theorem CardStep.steps (h : CardStep r r') : RecordSteps reads swaps r r' := Relation.ReflTransGen.single (.inl h)

theorem RecordSteps.then {r'' : SlotRecord} (h : RecordSteps reads swaps r r') (h' : RecordSteps reads swaps r' r'') :
    RecordSteps reads swaps r r'' := Relation.ReflTransGen.trans h h'

theorem WorkSteps.records (h : WorkSteps reads swaps r r') : RecordSteps reads swaps r r' := by
  induction h with
  | refl => exact .refl _
  | tail _ hstep ih => exact ih.then (Relation.ReflTransGen.single (.inr hstep))

theorem RecordSteps.keeps {P : SlotRecord → Prop} (hcard : ∀ r r', CardStep r r' → P r → P r')
    (hwork : ∀ r r', WorkStep reads swaps r r' → P r → P r') (h : RecordSteps reads swaps r r') (hr : P r) : P r' := by
  induction h with
  | refl => exact hr
  | tail _ hstep ih => exact hstep.elim (fun hc => hcard _ _ hc ih) fun hw => hwork _ _ hw ih

theorem lineAsserted_records (j k : Slot) (u : State) :
    RecordSteps reads swaps (u.slot j) ((lineAsserted k u).slot j) := by
  obtain hs | ⟨-, -, hx, hs⟩ := lineAsserted_slot (s := u) j k <;> rw [hs]
  · exact .refl _
  · exact (CardStep.settling hx).steps

theorem eachSlot_records {act : Slot → State → State}
    (hact : ∀ k u j, RecordSteps reads swaps (u.slot j) ((act k u).slot j)) (ks : List Slot) (u : State) (j : Slot) :
    RecordSteps reads swaps (u.slot j) ((eachSlot ks act u).slot j) := by
  induction ks generalizing u with
  | nil => exact .refl _
  | cons k ks ih => exact (hact k u j).then (ih (act k u))

theorem cardGone_records (hp : PowerSound s) (j k : Slot) :
    RecordSteps reads swaps (s.slot j) ((cardGone k s).slot j) := by
  by_cases hj : j = k
  · rw [hj]
    cases htakes : (s.slot k).state.takesCardGone with
    | true =>
      rw [cardGone_slot_same k htakes]
      split
      · rename_i hq; exact (CardStep.goneInQuarantine hq).steps
      · rename_i hq; exact (CardStep.gone hq).steps
    | false =>
      rw [cardGone_slot_off k htakes]
      refine (CardStep.unparked ?_).steps
      revert htakes
      cases (s.slot k).state <;> decide
  · exact (cardGone_steps hp hj).records

theorem clearedState_cases (k : Slot) (u : State) :
    clearedState u k = .present ∨ clearedState u k = .settling ∨ clearedState u k = .empty := by
  unfold clearedState
  split
  · exact .inl rfl
  · split
    · exact .inr (.inl rfl)
    · exact .inr (.inr rfl)

theorem restartAll_records (j : Slot) (u : State) : RecordSteps reads swaps (u.slot j) ((restartAll u).slot j) := by
  have hblocks : RecordSteps reads swaps (u.slot j) ((restartBlocks u).slot j) := by
    rw [restartBlocks_slot]; exact CardStep.restarted.steps
  have hlines := eachSlot_records (reads := reads) (swaps := swaps) (act := resumeInsertion) (fun k v j => by
    unfold resumeInsertion; split
    · exact lineAsserted_records j k v
    · exact .refl _) allSlots (restartBlocks u) j
  rw [restartAll]
  exact (hblocks.then hlines).then (eachSlot_steps (fun k v j => admissionGate_steps j k v) _ _ j).records

theorem coldReset_records (j : Slot) (u : State) :
    RecordSteps reads swaps (u.slot j) ((eachSlot allSlots redetect (coldState u)).slot j) := by
  have hreset : RecordSteps reads swaps (u.slot j) ((coldState u).slot j) := by
    rw [coldState_slot]; exact CardStep.reset.steps
  refine hreset.then (eachSlot_records (fun k v j => ?_) allSlots (coldState u) j)
  unfold redetect; split
  · exact lineAsserted_records j k v
  · exact .refl _

theorem CardEvent.records (hp : PowerSound s) (h : CardEvent s t) (j : Slot) :
    RecordSteps reads swaps (s.slot j) (t.slot j) := by
  cases h with
  | lineAsserted k => exact lineAsserted_records j k s
  | lineDeasserted k =>
    obtain hs | ⟨-, -, hx, hs⟩ := lineDeasserted_slot (s := s) j k <;> rw [hs]
    · exact .refl _
    · exact (CardStep.unsettled hx).steps
  | inserted k d e _ =>
    obtain hs | ⟨-, -, ⟨hx, hs⟩ | ⟨hx, x, hxs, hs⟩⟩ := cardArrived_slot (s := s.modPres k fun r =>
      { r with phase := .seated, timer := .stopped }) j k e <;> rw [hs]
    · exact .refl _
    · refine .then (CardStep.arrived .quarantined (.inl ⟨hx, rfl⟩)).steps (.of_eq ?_)
      rw [← hx]
    · exact (CardStep.arrived x (.inr ⟨hx, hxs⟩)).steps
  | removed k d _ =>
    exact cardGone_records (s := s.modPres k fun r => { r with phase := .absent, timer := .stopped, auxSupply := false })
      (powerSound_of_slots hp rfl rfl) j k
  | quarantinedCleared k hx =>
    rw [clearQuarantined_slot]
    split
    · rename_i hj
      rw [hj]
      exact (CardStep.quarantineCleared hx _ (clearedState_cases k s)).steps
    · exact .refl _
  | restarted => exact restartAll_records j s

/-- Every command takes each slot record through a run of moves; an identity is read only for an attempt. -/
theorem Done.records (hp : PowerSound s) (h : Done s t) (j : Slot) :
    ∃ swaps, RecordSteps ((s.attempt j).isSome = true) swaps (s.slot j) (t.slot j) := by
  obtain ⟨u, he, hposted⟩ := h
  rw [slot_of_slots hposted.slots_eq j]
  obtain hcard | hwork := he.worked hp
  · exact ⟨False, hcard.records hp j⟩
  · exact ⟨_, (hwork.steps j).records⟩

end

/-! ## Counts and optional fields -/

/-- The counts and the optional fields of one slot record, as R2 and R9 have them. -/
def RecordFor (r : SlotRecord) : Prop :=
  (if r.state = .quarantined then r.faultRun = 3 else if r.state = .faulted then r.faultRun = 1 ∨ r.faultRun = 2
    else r.faultRun ≤ 2)
    ∧ r.cleanRun ≤ 4095
    ∧ (r.faultReason.isSome = true ↔ r.state = .faulted ∨ r.state = .quarantined)
    ∧ (r.cardCode.isSome = true ↔ r.faultReason = some .cardRefused)
    ∧ (r.parkReason = some .power ↔ r.state = .powerWait)
    ∧ ((r.parkReason = some .image ∨ r.parkReason = some .cycle) → r.state = .mapWait)
    ∧ (r.state.usesProfile = true → r.profileIndex.isSome = true)
    ∧ ((r.state = .empty ∨ r.state = .settling ∨ r.state = .present ∨ r.state = .identifying) → r.profileIndex = none)

theorem recordsSound_iff (s : State) : RecordsSound s ↔ ∀ k, RecordFor (s.slot k) := Iff.rfl

/-- The fault-run count of a slot that has not faulted is 2 at most. -/
theorem RecordFor.faultRun_le {r : SlotRecord} (h : RecordFor r) (hq : r.state ≠ .quarantined) : r.faultRun ≤ 2 := by
  obtain ⟨hrun, -⟩ := h
  rw [if_neg hq] at hrun
  split at hrun <;> omega

theorem WorkStep.keeps_recordFor {reads swaps : Prop} {r r' : SlotRecord} (h : WorkStep reads swaps r r')
    (hr : RecordFor r) : RecordFor r' := by
  have hle := hr.faultRun_le
  obtain ⟨hrun, hclean, hreason, hcode, hpower, hpark, hprofile, hnone⟩ := hr
  cases h with
  | modeChosen => exact ⟨hrun, hclean, hreason, hcode, hpower, hpark, hprofile, hnone⟩
  | identityRead => exact ⟨hrun, hclean, hreason, hcode, hpower, hpark, hprofile, hnone⟩
  | stopped h =>
    obtain ⟨-, -, -, hnotFaulted, hnotQuarantined⟩ : r.state ≠ .empty ∧ r.state ≠ .settling ∧ r.state ≠ .present
        ∧ r.state ≠ .faulted ∧ r.state ≠ .quarantined := by simpa using (stoppable_iff r.state).mp h
    simp_all [RecordFor, SlotState.usesProfile]
  | faulted reason code h hc =>
    obtain ⟨-, -, -, -, hnotQuarantined⟩ : r.state ≠ .empty ∧ r.state ≠ .settling ∧ r.state ≠ .present
        ∧ r.state ≠ .faulted ∧ r.state ≠ .quarantined := by simpa using (stoppable_iff r.state).mp (takenIn_bringUp h)
    have hcount := hle hnotQuarantined
    by_cases h3 : 3 ≤ r.faultRun + 1
    · have hthree : r.faultRun + 1 = 3 := by omega
      simp only [faultedRecord, if_pos h3]
      by_cases href : reason = .cardRefused <;> simp_all [RecordFor, SlotState.usesProfile]
    · have hfew : r.faultRun + 1 = 1 ∨ r.faultRun + 1 = 2 := by omega
      simp only [faultedRecord, if_neg h3]
      by_cases href : reason = .cardRefused <;> simp_all [RecordFor, SlotState.usesProfile]
  | answered h =>
    unfold countAnswered
    split
    · exact ⟨by simp [h], by simp, hreason, hcode, hpower, hpark, hprofile, hnone⟩
    · rename_i hgoal
      refine ⟨hrun, ?_, hreason, hcode, hpower, hpark, hprofile, hnone⟩
      have hgoal : r.cleanRun + 1 ≠ 4096 := hgoal
      show r.cleanRun + 1 ≤ 4095
      omega
  | missed h => exact ⟨hrun, by simp, hreason, hcode, hpower, hpark, hprofile, hnone⟩
  | claimParked p h => simp_all [RecordFor, SlotState.usesProfile]
  | claimGranted p h => simp_all [RecordFor, SlotState.usesProfile]
  | parked reason h hk =>
    have hnotPower : reason ≠ .power := by obtain rfl | rfl := hk <;> simp
    simp_all [RecordFor, SlotState.usesProfile]
  | _ h => simp_all [RecordFor, SlotState.usesProfile]

theorem CardStep.keeps_recordFor {r r' : SlotRecord} (h : CardStep r r') (hr : RecordFor r) : RecordFor r' := by
  have hle := hr.faultRun_le
  obtain ⟨hrun, hclean, hreason, hcode, hpower, hpark, hprofile, hnone⟩ := hr
  cases h with
  | settling h => simp_all [RecordFor, SlotState.usesProfile]
  | unsettled h => simp_all [RecordFor, SlotState.usesProfile]
  | arrived x h =>
    obtain ⟨h, rfl⟩ | ⟨h, rfl | rfl⟩ := h <;> simp_all [RecordFor, SlotState.usesProfile]
  | goneInQuarantine h => simp_all [RecordFor, SlotState.usesProfile]
  | gone h => simp_all [RecordFor, SlotState.usesProfile]
  | unparked h =>
    obtain h | h := h <;> simp_all [RecordFor, SlotState.usesProfile]
  | quarantineCleared h x hx =>
    obtain rfl | rfl | rfl := hx <;> simp_all [RecordFor, SlotState.usesProfile]
  | restarted =>
    cases hc : r.cardPresent <;> simp [RecordFor, restartSlot, SlotRecord.reset, SlotState.usesProfile, hc]
  | reset => simp [RecordFor, SlotRecord.reset, SlotState.usesProfile]

theorem coldReset_recordsSound (u : State) (h : RecordsSound u) :
    RecordsSound (eachSlot allSlots redetect (coldState u)) := fun k =>
  (coldReset_records (reads := False) (swaps := False) k u).keeps (P := RecordFor) (fun _ _ => CardStep.keeps_recordFor)
    (fun _ _ => WorkStep.keeps_recordFor) (h k)

theorem Done.keeps_recordsSound {s t : State} (hp : PowerSound s) (h : RecordsSound s) (hd : Done s t) :
    RecordsSound t := fun k => by
  obtain ⟨swaps, hsteps⟩ := hd.records hp k
  exact hsteps.keeps (P := RecordFor) (fun _ _ => CardStep.keeps_recordFor) (fun _ _ => WorkStep.keeps_recordFor) (h k)

/-! ## The identity record -/

/-- The span of a slot's identity record (R2). -/
def IdentityFor (r : SlotRecord) : Prop :=
  (r.cardPresent = false → r.identity = none) ∧ (r.state.usesProfile = true → r.identity.isSome = true)

/-- A move that reads an identity only of a card that is present keeps the identity record's span. -/
theorem WorkStep.keeps_identityFor {reads swaps : Prop} {r r' : SlotRecord} (h : WorkStep reads swaps r r')
    (hr : IdentityFor r ∧ (reads → r.cardPresent = true)) : IdentityFor r' ∧ (reads → r'.cardPresent = true) := by
  refine ⟨?_, h.card.1 ▸ hr.2⟩
  obtain ⟨⟨habsent, hprofile⟩, hreads⟩ := hr
  cases h with
  | identityRead c hc => simp_all [IdentityFor]
  | answered h => unfold countAnswered; split <;> exact ⟨habsent, hprofile⟩
  | stopped h => exact ⟨habsent, by simp [SlotState.usesProfile]⟩
  | faulted reason code h hc =>
    refine ⟨habsent, ?_⟩
    dsimp only [faultedRecord]
    split <;> simp [SlotState.usesProfile]
  | claimParked p h => simp_all [IdentityFor, SlotState.usesProfile]
  | claimGranted p h => simp_all [IdentityFor, SlotState.usesProfile]
  | modeChosen => exact ⟨habsent, hprofile⟩
  | missed => exact ⟨habsent, hprofile⟩
  | _ h => simp_all [IdentityFor, SlotState.usesProfile]

theorem CardStep.keeps_identityFor {r r' : SlotRecord} (h : CardStep r r') (hr : IdentityFor r) : IdentityFor r' := by
  obtain ⟨habsent, hprofile⟩ := hr
  cases h with
  | arrived x h =>
    obtain ⟨h, rfl⟩ | ⟨h, rfl | rfl⟩ := h <;> simp_all [IdentityFor, SlotState.usesProfile]
  | quarantineCleared h x hx =>
    obtain rfl | rfl | rfl := hx <;> simp_all [IdentityFor, SlotState.usesProfile]
  | unparked => exact ⟨habsent, hprofile⟩
  | restarted =>
    cases hc : r.cardPresent <;> simp [IdentityFor, restartSlot, SlotRecord.reset, SlotState.usesProfile, hc]
  | reset => simp [IdentityFor, SlotRecord.reset, SlotState.usesProfile]
  | _ h => simp_all [IdentityFor, SlotState.usesProfile]

/-- Only a slot in IDENTIFYING has an attempt record. -/
theorem ServiceSound.identifying_of_attempt {s : State} (h : ServiceSound s) {k : Slot}
    (ha : (s.attempt k).isSome = true) : (s.slot k).state = .identifying := by
  obtain ⟨hslots, -⟩ := h
  have hk := hslots k
  revert hk
  cases (s.slot k).state with
  | identifying => exact fun _ => rfl
  | _ => rintro ⟨hnone, -⟩; rw [hnone] at ha; cases ha

/-- A slot in IDENTIFYING has its card present. -/
theorem PresenceFor.card_of_identifying {p : PresenceRecord} {r : SlotRecord} (h : PresenceFor p r)
    (hx : r.state = .identifying) : r.cardPresent = true := by
  obtain ⟨-, hphase⟩ := h
  revert hphase
  cases p.phase with
  | absent => rintro ⟨-, -, -, h | h⟩ <;> rw [hx] at h <;> cases h
  | inserting => rintro ⟨-, -, -, h | h⟩ <;> rw [hx] at h <;> cases h
  | seated => exact fun h => h.2.2.1
  | removing => exact fun h => h.2.2.1

theorem CardEvent.keeps_identitySound {s t : State} (hp : PowerSound s) (h : IdentitySound s) (hd : CardEvent s t) :
    IdentitySound t := fun k =>
  (hd.records (reads := False) (swaps := False) hp k).keeps (P := IdentityFor) (fun _ _ => CardStep.keeps_identityFor)
    (fun _ _ hw hr => (hw.keeps_identityFor ⟨hr, False.elim⟩).1) (h k)

theorem Done.keeps_identitySound {s t : State} (hp : PowerSound s) (hpres : PresenceSound s) (hserv : ServiceSound s)
    (h : IdentitySound s) (hd : Done s t) : IdentitySound t := by
  obtain ⟨u, he, hposted⟩ := hd
  intro k
  rw [slot_of_slots hposted.slots_eq k]
  obtain hcard | hwork := he.worked hp
  · exact hcard.keeps_identitySound hp h k
  · have hreads : (s.attempt k).isSome = true → (s.slot k).cardPresent = true := fun ha =>
      ((presenceSound_iff s).mp hpres k).card_of_identifying (hserv.identifying_of_attempt ha)
    exact ((hwork.steps k).keeps (fun _ _ hstep hr => hstep.keeps_identityFor hr) ⟨h k, hreads⟩).1

theorem coldReset_identitySound (u : State) (h : IdentitySound u) :
    IdentitySound (eachSlot allSlots redetect (coldState u)) := fun k =>
  (coldReset_records (reads := False) (swaps := False) k u).keeps (P := IdentityFor)
    (fun _ _ => CardStep.keeps_identityFor) (fun _ _ hw hr => (hw.keeps_identityFor ⟨hr, False.elim⟩).1) (h k)

/-- Settles O11: each move of a slot record keeps its fields as its state has them; an identity is read only in
IDENTIFYING, where a card is present. -/
theorem stepKeepsRecordsSound : Obligations.StepKeepsRecordsSound := by
  refine ⟨fun _ _ hp hs hstep => ?_, fun s _ hp hpres hserv hs hstep => ?_⟩
  · exact (step_keeps (P := fun s => PowerSound s ∧ RecordsSound s) (fun _ _ h => h)
      (fun u h => ⟨coldReset_powerSound u, coldReset_recordsSound u h.2⟩)
      (fun _ _ h hd => ⟨hd.keeps_powerSound h.1, hd.keeps_recordsSound h.1 h.2⟩) ⟨hp, hs⟩ hstep).2
  · obtain ht | ⟨c, rest, -, ht | hd⟩ := step_cases hstep
    · exact ht ▸ hs
    · exact ht ▸ coldReset_identitySound _ hs
    · exact Done.keeps_identitySound (s := { s with pending := rest }) hp hpres hserv hs hd

end Sys2Proof.Machine
end

section
/-!
PROOF. The service channel against the slot states (R40, R89, R90, R100): one job for each slot that identifies or
configures, and none for any other, after every step.
-/
namespace Sys2Proof.Machine

/-! ## The transactions of a slot -/

theorem mem_sequencerWork {c : ServiceChannel} {k : Slot} {x : Transaction} :
    x ∈ sequencerWork c k ↔ x ∈ serviceWork c ∧ x.origin = .sequencer ∧ x.slot = k := by
  simp [sequencerWork]

/-- The transactions of one slot among some. -/
def workOf (k : Slot) (xs : List Transaction) : List Transaction :=
  xs.filter fun x => x.origin == .sequencer && x.slot == k

theorem sequencerWork_eq (c : ServiceChannel) (k : Slot) : sequencerWork c k = workOf k (serviceWork c) := rfl

theorem workOf_append (k : Slot) (xs ys : List Transaction) : workOf k (xs ++ ys) = workOf k xs ++ workOf k ys :=
  List.filter_append ..

theorem workOf_cons (k : Slot) (x : Transaction) (xs : List Transaction) :
    workOf k (x :: xs) = workOf k [x] ++ workOf k xs := workOf_append k [x] xs

theorem workOf_single_same {k : Slot} {x : Transaction} (ho : x.origin = .sequencer) (hk : x.slot = k) :
    workOf k [x] = [x] := by simp [workOf, ho, hk]

theorem workOf_single_none {k : Slot} {x : Transaction} (h : x.origin = .passThrough ∨ x.slot ≠ k) :
    workOf k [x] = [] := by
  obtain h | h := h <;> simp [workOf, h]

theorem serviceWork_queue (c : ServiceChannel) (x : Transaction) :
    serviceWork { c with queue := c.queue ++ [x] } = serviceWork c ++ [x] := by
  simp [serviceWork]

/-- A withdrawal leaves the transactions of the other slots. -/
theorem serviceWork_withdraw (k : Slot) (s : State) :
    serviceWork (withdraw k s).service = (serviceWork s.service).filter (·.slot != k) := by
  rw [withdraw_service, withdrawService_service]
  cases hx : s.service.inFlight with
  | none => simp [serviceWork, hx]
  | some x =>
    by_cases hk : x.slot = k
    · simp [serviceWork, hx, hk]
    · simp [serviceWork, hx, hk]

theorem workOf_filter (j k : Slot) (xs : List Transaction) :
    workOf j (xs.filter (·.slot != k)) = if j = k then [] else workOf j xs := by
  unfold workOf
  rw [List.filter_filter]
  split
  · rename_i hj
    rw [List.filter_eq_nil_iff]
    rintro x -
    simp [hj]
  · rename_i hj
    refine List.filter_congr fun x _ => ?_
    by_cases hx : x.slot = j
    · simp [hx, hj]
    · simp [hx]

/-! ## One slot's job -/

/-- The states in which a slot has no job of the service channel. -/
def SlotState.jobless (x : SlotState) : Bool := x != .identifying && x != .configuring

/-- The job of one slot, by its state and epoch: attempt record, download and transactions. -/
def JobFor (x : SlotState) (e : Epoch) (att : Option Attempt) (dl : Option Download) (work : List Transaction) : Prop :=
  match x with
  | .identifying => dl = none
      ∧ ∃ a y, att = some a ∧ (1 ≤ a.number ∧ a.number ≤ 3) ∧ a.epoch = e ∧ work = [y] ∧ y.kind = .identRead
        ∧ y.epoch = a.epoch
  | .configuring => att = none
      ∧ ∃ d y, dl = some d ∧ d.epoch = e ∧ work = [y] ∧ y.kind ≠ .identRead ∧ d.awaits y = true
  | _ => att = none ∧ dl = none ∧ work = []

/-- The job of slot `k` stands as its state has it. -/
def SlotJob (s : State) (k : Slot) : Prop :=
  JobFor (s.slot k).state (s.slot k).epoch (s.attempt k) (s.download k) (sequencerWork s.service k)

theorem jobFor_jobless {x : SlotState} {e : Epoch} {att : Option Attempt} {dl : Option Download}
    {work : List Transaction} (h : x.jobless = true) :
    JobFor x e att dl work ↔ att = none ∧ dl = none ∧ work = [] := by
  cases x <;> first | exact Iff.rfl | cases h

/-- A live segment has its transaction in flight (R90). -/
def LiveHasFlight (c : ServiceChannel) : Prop := ∀ g, c.segment = some g → g.live = true → c.inFlight.isSome = true

theorem serviceSound_iff (s : State) :
    ServiceSound s ↔ (∀ k, SlotJob s k) ∧ passThroughKinds s.service ∧ LiveHasFlight s.service := by
  have hjob : ∀ k, SlotJob s k ↔ match (s.slot k).state with
      | .identifying => s.download k = none
          ∧ ∃ a x, s.attempt k = some a ∧ (1 ≤ a.number ∧ a.number ≤ 3) ∧ a.epoch = (s.slot k).epoch
              ∧ sequencerWork s.service k = [x] ∧ x.kind = .identRead ∧ x.epoch = a.epoch
      | .configuring => s.attempt k = none
          ∧ ∃ d x, s.download k = some d ∧ d.epoch = (s.slot k).epoch ∧ sequencerWork s.service k = [x]
              ∧ x.kind ≠ .identRead ∧ d.awaits x = true
      | _ => s.attempt k = none ∧ s.download k = none ∧ sequencerWork s.service k = [] := fun k => by
    unfold SlotJob JobFor
    cases (s.slot k).state <;> exact Iff.rfl
  unfold ServiceSound
  exact and_congr (forall_congr' fun k => (hjob k).symm) Iff.rfl

/-- The jobs of the slots of a set stand, and so does what the channel holds. -/
structure JobsOn (S : Slot → Prop) (s : State) : Prop where
  jobs : ∀ k, S k → SlotJob s k
  kinds : passThroughKinds s.service
  live : LiveHasFlight s.service

theorem ServiceSound.jobsOn {s : State} (h : ServiceSound s) (S : Slot → Prop) : JobsOn S s := by
  obtain ⟨hjobs, hkinds, hlive⟩ := (serviceSound_iff s).mp h
  exact ⟨fun k _ => hjobs k, hkinds, hlive⟩

theorem JobsOn.serviceSound {s : State} (h : JobsOn (fun _ => True) s) : ServiceSound s :=
  (serviceSound_iff s).mpr ⟨fun k => h.jobs k trivial, h.kinds, h.live⟩

/-- The attempt records and the service channel: all that the jobs of the slots stand by. -/
def tasks (s : State) : Vector (Option Attempt) 16 × ServiceChannel := (s.matcher.attempts, s.service)

/-- Two slot records with the same job: the same state and epoch, or no job in either. -/
def SameJob (r r' : SlotRecord) : Prop :=
  (r'.state = r.state ∧ r'.epoch = r.epoch) ∨ (r.state.jobless = true ∧ r'.state.jobless = true)

section
variable {s t : State}

theorem SameJob.of_eq {r r' : SlotRecord} (h : r' = r) : SameJob r r' := by
  rw [h]
  exact .inl ⟨rfl, rfl⟩

theorem SlotJob.congr {k : Slot} (h : SlotJob s k) (hatt : t.attempt k = s.attempt k)
    (hdl : t.download k = s.download k) (hwork : sequencerWork t.service k = sequencerWork s.service k)
    (hslot : SameJob (s.slot k) (t.slot k)) : SlotJob t k := by
  unfold SlotJob at h ⊢
  rw [hatt, hdl, hwork]
  obtain ⟨hx, he⟩ | ⟨hx, hx'⟩ := hslot
  · rwa [hx, he]
  · exact (jobFor_jobless hx').mpr ((jobFor_jobless hx).mp h)

theorem JobsOn.congr {S : Slot → Prop} (h : JobsOn S s) (ht : tasks t = tasks s)
    (hslots : ∀ k, S k → SameJob (s.slot k) (t.slot k)) : JobsOn S t := by
  have hatt : t.matcher.attempts = s.matcher.attempts := congrArg (·.1) ht
  have hserv : t.service = s.service := congrArg (·.2) ht
  refine ⟨fun k hk => (h.jobs k hk).congr ?_ ?_ ?_ (hslots k hk), ?_, ?_⟩
  · exact congrArg (look · k) hatt
  · exact congrArg (fun c => look c.downloads k) hserv
  · rw [hserv]
  · rw [hserv]; exact h.kinds
  · rw [hserv]; exact h.live

theorem ServiceSound.congr (h : ServiceSound s) (ht : tasks t = tasks s) (hslots : ∀ k, SameJob (s.slot k) (t.slot k)) :
    ServiceSound t := ((h.jobsOn _).congr ht fun k _ => hslots k).serviceSound

theorem ServiceSound.of_slots (h : ServiceSound s) (ht : tasks t = tasks s) (hs : t.slots = s.slots) :
    ServiceSound t := h.congr ht fun k => .of_eq (slot_of_slots hs k)

theorem PowerMove.sameJob {j : Slot} (hp : PowerSound s) (h : PowerMove s t j) : SameJob (s.slot j) (t.slot j) := by
  obtain hs | ⟨hw, x, hx, hs⟩ | ⟨hq, hs⟩ := h
  · exact .of_eq hs
  · rw [hs]
    refine .inr ⟨by rw [hp.waitState hw]; rfl, ?_⟩
    obtain rfl | rfl := hx <;> rfl
  · rw [hs]
    exact .inr ⟨by rw [hp.queueState hq]; rfl, rfl⟩

/-! ## Withdrawal -/

theorem withdraw_attempt (j k : Slot) (s : State) :
    (withdraw k s).attempt j = if j = k then none else s.attempt j := by
  have h : (withdraw k s).attempt j = (s.setAttempt k none).attempt j :=
    congrArg (fun m : Matcher => look m.attempts j) (withdraw_matcher s k)
  rw [h]
  exact look_amend ..

theorem withdraw_download (j k : Slot) (s : State) :
    (withdraw k s).download j = if j = k then none else s.download j := by
  have h : (withdraw k s).download j = look (withdraw k s).service.downloads j := rfl
  rw [h, withdraw_service, withdrawService_service]
  exact look_amend ..

theorem withdraw_work (j k : Slot) (s : State) :
    sequencerWork (withdraw k s).service j = if j = k then [] else sequencerWork s.service j := by
  rw [sequencerWork_eq, serviceWork_withdraw, workOf_filter]
  rfl

/-- A withdrawal takes a slot's job, whatever stood of it, and leaves those of the others. -/
theorem withdraw_serviceSound {u : State} {k : Slot} (h : JobsOn (· ≠ k) s)
    (htasks : tasks u = tasks (withdraw k s)) (hothers : ∀ j, j ≠ k → SameJob (s.slot j) (u.slot j))
    (hx : (u.slot k).state.jobless = true) : ServiceSound u := by
  have hatt : ∀ j, u.attempt j = (withdraw k s).attempt j := fun j =>
    congrArg (fun m : Vector (Option Attempt) 16 × ServiceChannel => look m.1 j) htasks
  have hdl : ∀ j, u.download j = (withdraw k s).download j := fun j =>
    congrArg (fun m : Vector (Option Attempt) 16 × ServiceChannel => look m.2.downloads j) htasks
  have hserv : u.service = (withdraw k s).service := congrArg (·.2) htasks
  refine JobsOn.serviceSound ⟨fun j _ => ?_, ?_, ?_⟩
  · by_cases hj : j = k
    · subst hj
      refine (jobFor_jobless hx).mpr ⟨?_, ?_, ?_⟩
      · rw [hatt, withdraw_attempt, if_pos rfl]
      · rw [hdl, withdraw_download, if_pos rfl]
      · rw [hserv, withdraw_work, if_pos rfl]
    · refine (h.jobs j hj).congr ?_ ?_ ?_ (hothers j hj)
      · rw [hatt, withdraw_attempt, if_neg hj]
      · rw [hdl, withdraw_download, if_neg hj]
      · rw [hserv, withdraw_work, if_neg hj]
  · intro x hxw hxo
    rw [hserv, serviceWork_withdraw] at hxw
    exact h.kinds x (List.mem_of_mem_filter hxw) hxo
  · intro g hg hl
    rw [hserv, withdraw_service, withdrawService_service] at hg ⊢
    dsimp only at hg ⊢
    split at hg
    · obtain ⟨g', -, rfl⟩ := Option.map_eq_some_iff.mp hg
      cases hl
    · rename_i hmine
      rw [if_neg hmine]
      exact h.live g hg hl

theorem faultEntry_serviceSound {k : Slot} (hp : PowerSound s) (h : JobsOn (· ≠ k) s) (reason : FaultReason)
    (code : Option Byte) : ServiceSound (faultEntry k reason code s) := by
  refine withdraw_serviceSound h rfl (fun j hj => PowerMove.sameJob hp (faultEntry_slot_of_ne hj reason code)) ?_
  rw [faultEntry_slot_same]
  dsimp only [faultedRecord]
  split <;> rfl

theorem reportFault_serviceSound {k : Slot} (hp : PowerSound s) (h : ServiceSound s) (e : Epoch) (reason : FaultReason)
    (code : Option Byte) : ServiceSound (reportFault k e reason code s) := by
  obtain ⟨-, -, hs⟩ | ⟨-, hs⟩ := reportFault_cases s k e reason code <;> rw [hs]
  · exact faultEntry_serviceSound hp (h.jobsOn _) reason code
  · exact h

/-- A report that is taken ends the slot's job, whatever stood of it. -/
theorem reportFault_serviceSound_of_taken {k : Slot} (hp : PowerSound s) (h : JobsOn (· ≠ k) s) (e : Epoch)
    (reason : FaultReason) (code : Option Byte) (hx : reason.takenIn (s.slot k).state = true)
    (he : (s.slot k).epoch = e) : ServiceSound (reportFault k e reason code s) := by
  obtain ⟨-, -, hs⟩ | ⟨hno, -⟩ := reportFault_cases s k e reason code
  · rw [hs]; exact faultEntry_serviceSound hp h reason code
  · obtain hno | hno := hno
    · rw [hx] at hno; cases hno
    · exact absurd he hno

/-! ## Jobs that begin -/

theorem queueTransaction_work (j : Slot) (x : Transaction) (s : State) :
    sequencerWork (queueTransaction x s).service j = sequencerWork s.service j ++ workOf j [x] := by
  rw [sequencerWork_eq, sequencerWork_eq, ← workOf_append, ← serviceWork_queue]
  rfl

theorem passThroughKinds_queue (x : Transaction) (h : passThroughKinds s.service)
    (hx : x.origin = .passThrough → x.kind = .paramRead ∨ x.kind = .paramWrite) :
    passThroughKinds (queueTransaction x s).service := by
  intro y hy ho
  have hy : y ∈ serviceWork s.service ++ [x] := by rw [← serviceWork_queue]; exact hy
  obtain hy | hy := List.mem_append.mp hy
  · exact h y hy ho
  · rw [List.mem_singleton.mp hy] at ho ⊢
    exact hx ho

/-- A job given to one slot, with its transaction at the tail of the queue; the others keep theirs. -/
theorem jobGiven_serviceSound {u : State} {k : Slot} {x : Transaction} (h : JobsOn (· ≠ k) s)
    (hserv : u.service.queue = s.service.queue ++ [x] ∧ u.service.inFlight = s.service.inFlight
      ∧ u.service.segment = s.service.segment)
    (hx : x.origin = .sequencer ∧ x.slot = k) (hnone : sequencerWork s.service k = [])
    (hatt : ∀ j, j ≠ k → u.attempt j = s.attempt j) (hdl : ∀ j, j ≠ k → u.download j = s.download j)
    (hslots : ∀ j, j ≠ k → SameJob (s.slot j) (u.slot j))
    (hjob : JobFor (u.slot k).state (u.slot k).epoch (u.attempt k) (u.download k) [x]) : ServiceSound u := by
  obtain ⟨hqueue, hflight, hsegment⟩ := hserv
  obtain ⟨hxo, hxk⟩ := hx
  have hwork : ∀ j, sequencerWork u.service j = sequencerWork s.service j ++ workOf j [x] := fun j => by
    rw [sequencerWork_eq, sequencerWork_eq, ← workOf_append, ← serviceWork_queue]
    simp only [serviceWork, hqueue, hflight]
  refine JobsOn.serviceSound ⟨fun j _ => ?_, fun y hy ho => ?_, fun g hg hl => ?_⟩
  · by_cases hj : j = k
    · subst hj
      unfold SlotJob
      rw [hwork, hnone, workOf_single_same hxo hxk]
      exact hjob
    · refine (h.jobs j hj).congr (hatt j hj) (hdl j hj) ?_ (hslots j hj)
      rw [hwork, workOf_single_none (.inr fun hk => hj (hk.symm.trans hxk)), List.append_nil]
  · have hy : y ∈ serviceWork s.service ∨ y = x := by
      simp only [serviceWork, hqueue, hflight] at hy
      simp only [serviceWork]
      simpa [or_assoc] using hy
    obtain hy | rfl := hy
    · exact h.kinds y hy ho
    · rw [hxo] at ho; cases ho
  · rw [hsegment] at hg
    rw [hflight]
    exact h.live g hg hl

theorem enterIdentifying_serviceSound {k : Slot} (h : ServiceSound s) (hx : (s.slot k).state.jobless = true) :
    ServiceSound (enterIdentifying k s) := by
  obtain ⟨hjobs, -, -⟩ := (serviceSound_iff s).mp h
  obtain ⟨-, hdl, hwork⟩ := (jobFor_jobless hx).mp (hjobs k)
  refine jobGiven_serviceSound (s := s) (k := k) (x := identRead k (s.slot k).epoch) (h.jobsOn _) ⟨rfl, rfl, rfl⟩
    ⟨rfl, rfl⟩ hwork (fun j hj => look_amend_of_ne _ hj _) (fun j _ => rfl)
    (fun j hj => .of_eq (enterState_slot_of_ne _ hj _)) ?_
  rw [enterIdentifying_slot, if_pos rfl]
  have hatt : (enterIdentifying k s).attempt k = some ⟨(s.slot k).epoch, 1⟩ := look_amend_same ..
  exact ⟨hdl, _, _, hatt, ⟨Nat.le_refl 1, Nat.le_add_left 1 2⟩, rfl, rfl, rfl, rfl⟩

theorem admissionGate_serviceSound (k : Slot) (h : ServiceSound s) : ServiceSound (admissionGate k s) := by
  obtain ⟨hx, -, -, hs⟩ | ⟨-, hs⟩ := admissionGate_cases s k <;> rw [hs]
  · exact enterIdentifying_serviceSound h (by rw [hx]; rfl)
  · exact h

/-- The step and the transaction that a download goes on with agree (R100, R101). -/
theorem downloadNext_awaited (k : Slot) (e : Epoch) (p : Profile) (n : Nat) (i : ProfileIndex) (timer : Nat) :
    (downloadNext k e p n).2.origin = .sequencer ∧ (downloadNext k e p n).2.slot = k
      ∧ (downloadNext k e p n).2.kind ≠ .identRead
      ∧ Download.awaits ⟨e, i, (downloadNext k e p n).1, timer⟩ (downloadNext k e p n).2 = true := by
  unfold downloadNext
  split <;> simp [downloadWrite, paramCommit, identRead, Download.awaits]

theorem jobFor_configuring {e : Epoch} {dl : Option Download} {x : Transaction} {d : Download}
    (hd : dl = some d) (he : d.epoch = e) (hk : x.kind ≠ .identRead) (hw : d.awaits x = true) :
    JobFor .configuring e none dl [x] := ⟨rfl, d, x, hd, he, rfl, hk, hw⟩

/-- A download begins in CONFIGURING with the transaction it waits for (R100). -/
theorem createDownload_serviceSound {k : Slot} (h : JobsOn (· ≠ k) s) (hx : (s.slot k).state = .configuring)
    (hatt : s.attempt k = none) (hwork : sequencerWork s.service k = []) : ServiceSound (createDownload k s) := by
  obtain ⟨ho, hk, hkind, hawaits⟩ := downloadNext_awaited k (s.slot k).epoch
    (s.profile ((s.slot k).profileIndex.getD 0)) 1 ((s.slot k).profileIndex.getD 0)
    (s.profile ((s.slot k).profileIndex.getD 0)).configTimeout
  refine jobGiven_serviceSound (s := s) (k := k) h ⟨rfl, rfl, rfl⟩ ⟨ho, hk⟩ hwork (fun _ _ => rfl)
    (fun j hj => look_amend_of_ne _ hj _) (fun j _ => .of_eq rfl) ?_
  have hatt' : (createDownload k s).attempt k = none := hatt
  have hx' : ((createDownload k s).slot k).state = .configuring := hx
  rw [hatt', hx']
  exact jobFor_configuring (look_amend_same ..) rfl hkind hawaits

theorem rampEnded_serviceSound {k : Slot} (h : ServiceSound s) (hx : (s.slot k).state = .ramping) :
    ServiceSound (rampEnded k s) := by
  obtain ⟨hjobs, -, -⟩ := (serviceSound_iff s).mp h
  obtain ⟨hatt, -, hwork⟩ := (jobFor_jobless (by rw [hx]; rfl)).mp (hjobs k)
  let u := enterState k .configuring (s.modPow k fun r => { r with rampTimer := none, monitoring := true, filter := false })
  have hu : JobsOn (· ≠ k) u := (h.jobsOn _).congr rfl fun j hj => .of_eq (enterState_slot_of_ne _ hj _)
  have hdown : ServiceSound (createDownload k u) := createDownload_serviceSound hu (by rw [enterState_slot_same]) hatt hwork
  exact hdown.of_slots rfl rfl

/-! ## Transactions that end -/

/-- The transaction in flight is the first of the channel's work. -/
theorem serviceWork_of_flight {x : Transaction} (hx : s.service.inFlight = some x) :
    serviceWork s.service = x :: serviceWork (segmentOver s).service := by
  simp [serviceWork, segmentOver, hx]

theorem segmentOver_live : LiveHasFlight (segmentOver s).service := fun _ hg _ => by cases hg

theorem segmentOver_kinds (h : passThroughKinds s.service) {x : Transaction} (hx : s.service.inFlight = some x) :
    passThroughKinds (segmentOver s).service := fun y hy ho => by
  refine h y ?_ ho
  rw [serviceWork_of_flight hx]
  exact List.mem_cons_of_mem _ hy

theorem segmentOver_work {x : Transaction} (hx : s.service.inFlight = some x) (j : Slot) :
    sequencerWork s.service j = workOf j [x] ++ sequencerWork (segmentOver s).service j := by
  rw [sequencerWork_eq, serviceWork_of_flight hx, workOf_cons]
  rfl

/-- A transaction of the sequencer out of flight leaves the other slots' jobs. -/
theorem segmentOver_jobsOn (h : ServiceSound s) {x : Transaction} (hx : s.service.inFlight = some x) (S : Slot → Prop)
    (hS : ∀ j, S j → x.origin = .passThrough ∨ x.slot ≠ j) : JobsOn S (segmentOver s) := by
  obtain ⟨hjobs, hkinds, -⟩ := (serviceSound_iff s).mp h
  refine ⟨fun j hj => (hjobs j).congr rfl rfl ?_ (.of_eq rfl), segmentOver_kinds hkinds hx, segmentOver_live⟩
  rw [segmentOver_work hx, workOf_single_none (hS j hj), List.nil_append]

/-- The only transaction of a slot's job is the one in flight, and nothing of the slot's is left with it out of flight. -/
theorem job_of_flight (h : ServiceSound s) {x : Transaction} (hx : s.service.inFlight = some x)
    (ho : x.origin = .sequencer) :
    sequencerWork (segmentOver s).service x.slot = []
      ∧ (((s.slot x.slot).state = .identifying ∧ x.kind = .identRead ∧ s.download x.slot = none
          ∧ ∃ a, s.attempt x.slot = some a ∧ (1 ≤ a.number ∧ a.number ≤ 3) ∧ a.epoch = (s.slot x.slot).epoch
            ∧ x.epoch = a.epoch)
        ∨ ((s.slot x.slot).state = .configuring ∧ x.kind ≠ .identRead ∧ s.attempt x.slot = none
          ∧ ∃ d, s.download x.slot = some d ∧ d.epoch = (s.slot x.slot).epoch ∧ d.awaits x = true)) := by
  obtain ⟨hjobs, -, -⟩ := (serviceSound_iff s).mp h
  have hwork := segmentOver_work hx x.slot
  rw [workOf_single_same ho rfl, List.singleton_append] at hwork
  have hjob := hjobs x.slot
  unfold SlotJob JobFor at hjob
  revert hjob
  cases hstate : (s.slot x.slot).state with
  | identifying =>
    rintro ⟨hdl, a, y, ha, hn, he, hy, hk, hye⟩
    rw [hwork] at hy
    obtain ⟨rfl, hnil⟩ := List.cons.inj hy
    exact ⟨hnil, .inl ⟨rfl, hk, hdl, a, ha, hn, he, hye⟩⟩
  | configuring =>
    rintro ⟨hatt, d, y, hd, he, hy, hk, hw⟩
    rw [hwork] at hy
    obtain ⟨rfl, hnil⟩ := List.cons.inj hy
    exact ⟨hnil, .inr ⟨rfl, hk, hatt, d, hd, he, hw⟩⟩
  | _ => rintro ⟨-, -, hy⟩; rw [hwork] at hy; cases hy

/-! ## The ends of an identity read and of a download -/

theorem startRamp_tasks (s : State) : tasks (startRamp s) = tasks s := by
  rw [tasks, startRamp_matcher, startRamp_service]
  rfl

theorem startRamp_serviceSound (hq : ∀ j ∈ s.power.rampQueue, (s.slot j).state = .rampQueued) (h : ServiceSound s) :
    ServiceSound (startRamp s) := by
  refine h.congr (startRamp_tasks s) fun j => ?_
  obtain hs | ⟨hj, hs⟩ := startRamp_slot (s := s) j <;> rw [hs]
  · exact .of_eq rfl
  · exact .inr ⟨by rw [hq j hj]; rfl, rfl⟩

/-- A claim asked for with the slot's job over leaves every job as it stood. -/
theorem requestClaim_serviceSound {k : Slot} (hp : PowerSound s) (h : JobsOn (· ≠ k) s)
    (hatt : s.attempt k = none) (hdl : s.download k = none) (hwork : sequencerWork s.service k = []) :
    ServiceSound (requestClaim k s) := by
  have hnone : ∀ t : State, tasks t = tasks s → (∀ j, j ≠ k → t.slot j = s.slot j)
      → (t.slot k).state.jobless = true → ServiceSound t := fun t ht hs hx => by
    have hon := h.congr ht fun j hj => .of_eq (hs j hj)
    refine JobsOn.serviceSound ⟨fun j _ => ?_, hon.kinds, hon.live⟩
    by_cases hj : j = k
    · rw [hj]
      refine (jobFor_jobless hx).mpr ⟨?_, ?_, ?_⟩
      · exact (congrArg (fun m : Vector (Option Attempt) 16 × ServiceChannel => look m.1 k) ht).trans hatt
      · exact (congrArg (fun m : Vector (Option Attempt) 16 × ServiceChannel => look m.2.downloads k) ht).trans hdl
      · exact (congrArg (fun m : Vector (Option Attempt) 16 × ServiceChannel => sequencerWork m.2 k) ht).trans hwork
    · exact hon.jobs j hj
  unfold requestClaim
  split
  · refine startRamp_serviceSound (fun j hj => ?_) (hnone (grantClaim k s) rfl (fun j hj => ?_) ?_)
    · rw [grantClaim_slot]
      split
      · rfl
      · rename_i hjk
        have hj : j ∈ s.power.rampQueue ++ [k] := hj
        exact hp.queueState (by simpa [hjk] using hj)
    · rw [grantClaim_slot, if_neg hj]
    · rw [grantClaim_slot, if_pos rfl]; rfl
  · refine hnone (parkClaim k s) rfl (fun j hj => ?_) ?_
    · rw [parkClaim, enterState_slot_of_ne _ hj, State.modSlot_slot_of_ne _ hj, State.modPower_slot]
    · rw [parkClaim, enterState_slot_same]; rfl

theorem setAttempt_jobsOn {k : Slot} (a : Option Attempt) (h : JobsOn (· ≠ k) s) : JobsOn (· ≠ k) (s.setAttempt k a) :=
  ⟨fun j hj => (h.jobs j hj).congr (look_amend_of_ne _ hj _) rfl rfl (.of_eq rfl), h.kinds, h.live⟩

theorem setDownload_jobsOn {k : Slot} (d : Option Download) (h : JobsOn (· ≠ k) s) :
    JobsOn (· ≠ k) (s.setDownload k d) :=
  ⟨fun j hj => (h.jobs j hj).congr rfl (look_amend_of_ne _ hj _) rfl (.of_eq rfl), h.kinds, h.live⟩

theorem identityTaken_jobsOn {k : Slot} (c : IdentityRecord) (h : JobsOn (· ≠ k) s) :
    JobsOn (· ≠ k) (identityTaken k c s) :=
  setAttempt_jobsOn none (h.congr rfl fun _ hj => .of_eq (State.modSlot_slot_of_ne _ hj _))

theorem profileMatched_jobsOn {k : Slot} (c : IdentityRecord) (p : ProfileIndex) (h : JobsOn (· ≠ k) s) :
    JobsOn (· ≠ k) (profileMatched k c p s) :=
  (identityTaken_jobsOn c h).congr rfl fun _ hj => .of_eq (State.modSlot_slot_of_ne _ hj _)

/-- The end of an IDENT READ whose slot waited for it: the job goes on with the next read, or is over. -/
theorem IdentEnd.keeps_serviceSound {x : Transaction} {o : SegmentOutcome} (hp : PowerSound s)
    (h : JobsOn (· ≠ x.slot) s) (hx : (s.slot x.slot).state = .identifying) (hdl : s.download x.slot = none)
    (hwork : sequencerWork s.service x.slot = []) {a : Attempt} (ha : s.attempt x.slot = some a) (hn : 1 ≤ a.number)
    (hae : a.epoch = (s.slot x.slot).epoch) (hxe : x.epoch = a.epoch) (hend : IdentEnd x o s t) : ServiceSound t := by
  cases hend with
  | discarded hno => exact absurd hxe.symm (hno a ha)
  | retried b hb _ _ hlt =>
    obtain rfl : a = b := Option.some.inj (ha.symm.trans hb)
    refine jobGiven_serviceSound (s := s) (k := x.slot) (x := identRead x.slot a.epoch) h ⟨rfl, rfl, rfl⟩ ⟨rfl, rfl⟩
      hwork (fun j hj => look_amend_of_ne _ hj _) (fun _ _ => rfl) (fun _ _ => .of_eq rfl) ?_
    show JobFor (s.slot x.slot).state (s.slot x.slot).epoch _ (s.download x.slot) _
    rw [hx]
    exact ⟨hdl, _, _, look_amend_same .., ⟨Nat.le_add_left 1 _, by show a.number + 1 ≤ 3; omega⟩, hae, rfl, rfl, rfl⟩
  | timedOut b hb =>
    obtain rfl : a = b := Option.some.inj (ha.symm.trans hb)
    exact reportFault_serviceSound_of_taken (s := s.setAttempt x.slot none) (powerSound_of_slots hp rfl rfl)
      (setAttempt_jobsOn none h) _ _ _ (by rw [State.setAttempt_slot, hx]; rfl) hae.symm
  | faulted b hb _ c _ reason hr =>
    have hslot : (identityTaken x.slot c s).slot x.slot = { s.slot x.slot with identity := some c } := by
      rw [identityTaken_slot, if_pos rfl]
    refine reportFault_serviceSound_of_taken (identityTaken_powerSound hp _ _) (identityTaken_jobsOn c h) _ _ _ ?_ ?_
    · rw [hslot, hx]
      obtain ⟨-, rfl⟩ | ⟨-, -, rfl⟩ | ⟨-, -, -, -, rfl⟩ := hr <;> rfl
    · rw [hslot, hxe, hae]
  | matched b hb _ c _ _ p =>
    exact requestClaim_serviceSound (profileMatched_powerSound hp _ c p) (profileMatched_jobsOn c p h)
      (look_amend_same ..) hdl hwork
  | stale b hb _ c hno => exact absurd ⟨hx, by rw [hxe, hae]⟩ hno

/-- The end of a download's transaction that its slot waited for: the job goes on with the next one, or is over. -/
theorem DownloadEnd.keeps_serviceSound {x : Transaction} {c : Completion} (hp : PowerSound s)
    (h : JobsOn (· ≠ x.slot) s) (hx : (s.slot x.slot).state = .configuring) (hatt : s.attempt x.slot = none)
    (hwork : sequencerWork s.service x.slot = []) {d : Download} (hd : s.download x.slot = some d)
    (hde : d.epoch = (s.slot x.slot).epoch) (hw : d.awaits x = true) (hend : DownloadEnd x c s t) : ServiceSound t := by
  have hdown : PowerSound (s.setDownload x.slot none) := powerSound_of_slots hp rfl rfl
  cases hend with
  | discarded hno => rw [hno d hd] at hw; cases hw
  | wentOn b hb _ _ _ n _ =>
    obtain rfl : d = b := Option.some.inj (hd.symm.trans hb)
    obtain ⟨ho, hk, hkind, hawaits⟩ := downloadNext_awaited x.slot d.epoch (s.profile d.profile) (n + 1) d.profile d.timeout
    refine jobGiven_serviceSound (s := s) (k := x.slot) h ⟨rfl, rfl, rfl⟩ ⟨ho, hk⟩
      hwork (fun _ _ => rfl) (fun j hj => look_amend_of_ne _ hj _) (fun _ _ => .of_eq rfl) ?_
    show JobFor (s.slot x.slot).state (s.slot x.slot).epoch (s.attempt x.slot) _ _
    rw [hx, hatt]
    exact jobFor_configuring (look_amend_same ..) hde hkind hawaits
  | complete b hb =>
    have hon := setDownload_jobsOn none h
    refine JobsOn.serviceSound ⟨fun j _ => ?_, hon.kinds, hon.live⟩
    by_cases hj : j = x.slot
    · rw [hj]
      refine (jobFor_jobless ?_).mpr ⟨hatt, look_amend_same .., hwork⟩
      rw [State.modMaps_slot, enterState_slot_same]
      rfl
    · exact (hon.jobs j hj).congr rfl rfl rfl (.of_eq (enterState_slot_of_ne _ hj _))
  | stale b hb _ hno =>
    obtain rfl : d = b := Option.some.inj (hd.symm.trans hb)
    exact absurd ⟨hx, hde.symm⟩ hno
  | failed b hb _ reason code hr =>
    obtain rfl : d = b := Option.some.inj (hd.symm.trans hb)
    refine reportFault_serviceSound_of_taken hdown (setDownload_jobsOn none h) _ _ _ ?_ hde.symm
    rw [State.setDownload_slot, hx]
    obtain ⟨b, -, rfl, rfl⟩ | ⟨-, rfl, rfl⟩ := hr <;> rfl

/-! ## What leaves the tasks alone -/

theorem lineAsserted_tasks (k : Slot) (u : State) : tasks (lineAsserted k u) = tasks u := by
  unfold lineAsserted
  split
  · dsimp only; split <;> rfl
  all_goals rfl

theorem lineDeasserted_tasks (k : Slot) (u : State) : tasks (lineDeasserted k u) = tasks u := by
  unfold lineDeasserted
  split
  · dsimp only; split <;> rfl
  all_goals rfl

theorem emptySlot_tasks (k : Slot) (u : State) : tasks (emptySlot k u) = tasks u := by
  unfold emptySlot; split <;> rfl

theorem reevaluateClaims_tasks (u : State) : tasks (reevaluateClaims u) = tasks u := by
  rw [tasks, reevaluateClaims_matcher, reevaluateClaims_service]
  rfl

theorem runBuild_tasks (u : State) : tasks (runBuild u) = tasks u := by
  have hplaced : ∀ k v, tasks (reportPlaced k v) = tasks v := by
    intro k v; unfold reportPlaced; split <;> rfl
  have hparked : ∀ k r v, tasks (reportParked k r v) = tasks v := by
    intro k r v; unfold reportParked; split <;> rfl
  have hoffer : ∀ removed b, tasks (offerMap removed b) = tasks b.state := by
    intro removed b; unfold offerMap; dsimp only; split <;> rfl
  rw [runBuild, hoffer, foldl_build_same tasks applyAdd, foldl_build_same tasks retryParked]
  · rfl
  · intro b k; unfold retryParked; split
    · exact hplaced k _
    · exact hparked k _ _
  · intro b k; unfold applyAdd; split
    · exact hplaced k _
    · exact hparked k _ _

theorem swapMaps_tasks (u : State) : tasks (swapMaps u) = tasks u := by
  have hswap : ∀ k v, tasks (reportSwapped k v) = tasks v := by
    intro k v
    unfold reportSwapped
    split
    · split <;> rfl
    · rfl
  have hpost : ∀ b v, tasks (postNotice b v) = tasks v := fun _ _ => rfl
  unfold swapMaps
  split
  · rw [hpost, eachSlot_same tasks _ hswap]; rfl
  · rfl

theorem copyOutput_tasks (image : List Byte) (u : State) (e : MapEntry) :
    tasks (copyOutput image e u) = tasks u := by
  unfold copyOutput; split <;> rfl

theorem serveFrame_tasks (f : HeldFrame) (u : State) : tasks (serveFrame f u) = tasks u := by
  have hcycle : ∀ g v, tasks (State.modCycle v g) = tasks v := fun _ _ => rfl
  unfold serveFrame
  dsimp only [startExchange]
  rw [hcycle, foldl_same _ tasks (fun s e => copyOutput f.output e s) (copyOutput_tasks f.output)]
  cases f.frameClass
  · rfl
  · exact swapMaps_tasks u

theorem acceptFrame_tasks (f : HeldFrame) (g : Nat) (long : Bool) (u : State) :
    tasks (acceptFrame f g long u) = tasks u := by
  have htaken : tasks (frameTaken f g long u) = tasks u := by
    unfold frameTaken; cases long <;> split <;> rfl
  rw [acceptFrame_eq]
  split
  · rw [serveFrame_tasks, htaken]
  · exact htaken

theorem BuildMove.sameJob {r r' : SlotRecord} (h : BuildMove r r') : SameJob r r' := by
  obtain hs | ⟨hx, ⟨_, -, hs⟩ | hs⟩ := h
  · exact .of_eq hs
  · rw [hs]; exact .inl ⟨rfl, rfl⟩
  · rw [hs]; exact .inr ⟨by rw [hx]; rfl, rfl⟩

theorem SwapMove.sameJob {m : ImageMap} {k : Slot} {r r' : SlotRecord} (h : SwapMove m k r r') : SameJob r r' := by
  obtain hs | ⟨hx, -, hs⟩ := h
  · exact .of_eq hs
  · rw [hs]; exact .inr ⟨by rw [hx]; rfl, rfl⟩

theorem lineAsserted_serviceSound (k : Slot) (h : ServiceSound s) : ServiceSound (lineAsserted k s) := by
  refine h.congr (lineAsserted_tasks k s) fun j => ?_
  obtain hs | ⟨-, -, hx, hs⟩ := lineAsserted_slot (s := s) j k <;> rw [hs]
  · exact .of_eq rfl
  · exact .inr ⟨by rw [hx]; rfl, rfl⟩

theorem accountSlot_serviceSound (hp : PowerSound s) (h : ServiceSound s) (limit : Nat)
    (p : Addressed × WindowOutcome) : ServiceSound (accountSlot limit s p) := by
  obtain ⟨a, o⟩ := p
  have hmissed : ServiceSound (missCounted a.slot s) := h.congr rfl fun j => by
    rw [missCounted_slot]
    split
    · rename_i hj; rw [hj]; exact .inl ⟨rfl, rfl⟩
    · exact .of_eq rfl
  obtain hs | ⟨hrun, -, ⟨data, diag, -, hs⟩ | ⟨-, -, hs⟩ | ⟨-, -, hs⟩⟩ := accountSlot_cases (s := s) limit a o <;>
    rw [hs]
  · exact h
  · refine h.congr ?_ fun j => ?_
    · unfold takeResponse; dsimp only; split <;> rfl
    · rw [takeResponse_slot]
      split
      · rename_i hj; rw [hj]; unfold countAnswered; split <;> exact .inl ⟨rfl, rfl⟩
      · exact .of_eq rfl
  · exact hmissed
  · exact faultEntry_serviceSound (missCounted_powerSound hp _) (hmissed.jobsOn _) ..

theorem accounted_serviceSound (hp : PowerSound s) (h : ServiceSound s) (limit : Nat)
    (ps : List (Addressed × WindowOutcome)) : ServiceSound (ps.foldl (accountSlot limit) s) := by
  induction ps generalizing s with
  | nil => exact h
  | cons p ps ih => exact ih (accountSlot_powerSound hp limit p) (accountSlot_serviceSound hp h limit p)

theorem putSettings_serviceSound (hp : PowerSound s) (h : ServiceSound s) (r : RackSettings) :
    ServiceSound (putSettings r s) := by
  have hset : ServiceSound (s.modMgmt fun m => { m with settings := r.clamped }) := h.of_slots rfl rfl
  have hbudget : ServiceSound (handBudget s.settings (s.modMgmt fun m => { m with settings := r.clamped })) := by
    unfold handBudget; split
    · exact hset.congr (reevaluateClaims_tasks _) fun j =>
        PowerMove.sameJob (powerSound_of_slots hp rfl rfl) (reevaluateClaims_slot j)
    · exact hset
  have hadmission : ServiceSound (handAdmission s.settings
      (handBudget s.settings (s.modMgmt fun m => { m with settings := r.clamped }))) := by
    unfold handAdmission; split
    · exact eachSlot_keeps (P := ServiceSound) allSlots (fun k _ u h => admissionGate_serviceSound k h) _ hbudget
    · exact hbudget
  rw [putSettings]
  unfold handTiming
  split
  · exact hadmission.of_slots rfl rfl
  · exact hadmission

/-- With nothing in the channel and no slot at work, every job is over. -/
theorem serviceSound_of_idle (hatt : ∀ k, s.attempt k = none) (hdl : ∀ k, s.download k = none)
    (hwork : serviceWork s.service = []) (hseg : ∀ g, s.service.segment = some g → g.live = false)
    (hx : ∀ k, (s.slot k).state.jobless = true) : ServiceSound s := by
  refine (serviceSound_iff s).mpr ⟨fun k => (jobFor_jobless (hx k)).mpr ⟨hatt k, hdl k, ?_⟩, fun x hxw => ?_,
    fun g hg hl => ?_⟩
  · rw [sequencerWork, hwork]; rfl
  · rw [hwork] at hxw; cases hxw
  · rw [hseg g hg] at hl; cases hl

theorem restartAll_serviceSound (s : State) : ServiceSound (restartAll s) := by
  rw [restartAll]
  refine eachSlot_keeps (P := ServiceSound) allSlots (fun k _ u h => admissionGate_serviceSound k h) _
    (eachSlot_keeps (P := ServiceSound) allSlots (fun k _ u h => ?_) _ ?_)
  · unfold resumeInsertion; split
    · exact lineAsserted_serviceSound k h
    · exact h
  · refine serviceSound_of_idle (fun k => look_replicate none k) (fun k => look_replicate none k) rfl (fun g hg => ?_)
      fun k => ?_
    · obtain ⟨g', -, rfl⟩ := Option.map_eq_some_iff.mp hg
      rfl
    · rw [restartBlocks_slot, restartSlot]
      dsimp only
      split <;> rfl

theorem coldReset_serviceSound (s : State) : ServiceSound (eachSlot allSlots redetect (coldState s)) := by
  refine eachSlot_keeps (P := ServiceSound) allSlots (fun k _ u h => ?_) _ ?_
  · unfold redetect; split
    · exact lineAsserted_serviceSound k h
    · exact h
  · refine serviceSound_of_idle (fun k => look_replicate none k) (fun k => look_replicate none k) rfl
      (fun g hg => by cases hg) fun k => ?_
    rw [coldState_slot]; rfl

/-! ## The commands -/

theorem Served.keeps_serviceSound (hp : PowerSound s) (h : ServiceSound s) (hd : Served s t) : ServiceSound t := by
  cases hd with
  | modeSet k m =>
    have hset : ServiceSound (s.modSlot k fun r => { r with mode := m }) := h.congr rfl fun j => by
      rw [State.modSlot_slot]
      split
      · rename_i hj; rw [hj]; exact .inl ⟨rfl, rfl⟩
      · exact .of_eq rfl
    unfold setMode
    dsimp only
    split
    · exact h
    · split
      · exact admissionGate_serviceSound k hset
      · exact hset
  | started k hx _ => exact enterIdentifying_serviceSound h (by rw [hx]; rfl)
  | stopped k _ =>
    refine withdraw_serviceSound (h.jobsOn _) (k := k) rfl
      (fun j hj => PowerMove.sameJob hp (stopSlot_slot_of_ne hj)) ?_
    · rw [stopSlot_slot_same]; rfl
  | faultedCleared k hx =>
    refine admissionGate_serviceSound k (h.congr rfl fun j => ?_)
    rw [enterState_slot]
    split
    · rename_i hj; rw [hj]; exact .inr ⟨by rw [hx]; rfl, rfl⟩
    · rename_i hj; exact .of_eq (State.modSlot_slot_of_ne _ hj _)
  | quarantinedCleared k hx =>
    refine h.congr rfl fun j => ?_
    rw [clearQuarantined_slot]
    split
    · rename_i hj
      rw [hj]
      refine .inr ⟨by rw [hx]; rfl, ?_⟩
      dsimp only
      obtain hc | hc | hc := clearedState_cases k s <;> rw [hc] <;> rfl
    · exact .of_eq rfl
  | profilesPurged => rw [foldl_setProfile_frame]; exact h.of_slots rfl rfl
  | settingsPut args r _ _ => exact putSettings_serviceSound hp h r
  | restarted => exact restartAll_serviceSound s
  | _ => exact h.of_slots rfl rfl

/-- A transaction of a pass-through in flight is a PARAM READ or PARAM WRITE. -/
theorem ServiceSound.sequencer_of_identRead (h : ServiceSound s) {x : Transaction} (hx : s.service.inFlight = some x)
    (hk : x.kind = .identRead) : x.origin = .sequencer := by
  obtain ⟨-, hkinds, -⟩ := (serviceSound_iff s).mp h
  cases ho : x.origin with
  | sequencer => rfl
  | passThrough =>
    have hmem : x ∈ serviceWork s.service := by rw [serviceWork_of_flight hx]; exact List.mem_cons_self
    obtain hr | hw := hkinds x hmem ho
    · rw [hk] at hr; cases hr
    · rw [hk] at hw; cases hw

theorem passThroughCompletion_tasks (x : Transaction) (c : Completion) (u : State) :
    tasks (passThroughCompletion x c u) = tasks u := by
  unfold passThroughCompletion; split <;> rfl

theorem completed_serviceSound (hp : PowerSound s) (h : ServiceSound s) {x : Transaction}
    (hx : s.service.inFlight = some x) (hk : x.kind ≠ .identRead) (c : Completion) :
    ServiceSound (completeTransaction x c (segmentOver s)) := by
  have hover : PowerSound (segmentOver s) := powerSound_of_slots hp rfl rfl
  cases ho : x.origin with
  | sequencer =>
    obtain ⟨hnil, ⟨-, hident, -⟩ | ⟨hstate, -, hatt, d, hd, hde, hw⟩⟩ := job_of_flight h hx ho
    · exact absurd hident hk
    · rw [completeTransaction_of_sequencer c _ ho]
      exact (downloadCompletion_end x c (segmentOver s)).keeps_serviceSound hover
        (segmentOver_jobsOn h hx _ fun j hj => .inr (Ne.symm hj)) hstate hatt hnil hd hde hw
  | passThrough =>
    rw [completeTransaction_of_passThrough c _ ho]
    exact (segmentOver_jobsOn h hx _ fun _ _ => .inl ho).serviceSound.of_slots (passThroughCompletion_tasks x c _)
      (passThroughCompletion_slots x c _)

theorem identCompleted_serviceSound (hp : PowerSound s) (h : ServiceSound s) {x : Transaction}
    (hx : s.service.inFlight = some x) (hk : x.kind = .identRead) (o : SegmentOutcome) :
    ServiceSound (identCompletion x o (segmentOver s)) := by
  have hover : PowerSound (segmentOver s) := powerSound_of_slots hp rfl rfl
  obtain ⟨hnil, ⟨hstate, -, hdl, a, ha, ⟨hn, -⟩, hae, hxe⟩ | ⟨-, hnot, -⟩⟩ :=
    job_of_flight h hx (h.sequencer_of_identRead hx hk)
  · exact (identCompletion_end x o (segmentOver s)).keeps_serviceSound hover
      (segmentOver_jobsOn h hx _ fun j hj => .inr (Ne.symm hj)) hstate hdl hnil ha hn hae hxe
  · exact absurd hk hnot

/-- A job stands with its transaction's progress changed. -/
theorem JobFor.progressed {x : SlotState} {e : Epoch} {att : Option Attempt} {dl : Option Download} {y y' : Transaction}
    (h : JobFor x e att dl [y]) (hy : y'.kind = y.kind ∧ y'.epoch = y.epoch ∧ y'.recordNumber = y.recordNumber) :
    JobFor x e att dl [y'] := by
  obtain ⟨hkind, hepoch, hrecord⟩ := hy
  unfold JobFor at h ⊢
  split at h
  · obtain ⟨hdl, a, z, ha, hn, he, hz, hk, hze⟩ := h
    obtain ⟨rfl, -⟩ := List.cons.inj hz
    exact ⟨hdl, a, y', ha, hn, he, rfl, hkind.trans hk, hepoch.trans hze⟩
  · obtain ⟨hatt, d, z, hd, he, hz, hk, hw⟩ := h
    obtain ⟨rfl, -⟩ := List.cons.inj hz
    refine ⟨hatt, d, y', hd, he, rfl, hkind ▸ hk, ?_⟩
    unfold Download.awaits at hw ⊢
    rwa [hkind, hepoch, hrecord]
  · obtain ⟨-, -, hnil⟩ := h
    cases hnil

/-- A transaction in flight that only progresses, and stays in flight or returns to the queue, serves the same job. -/
theorem progressed_serviceSound (h : ServiceSound s) {x x' : Transaction} (hx : s.service.inFlight = some x)
    (hsame : x'.origin = x.origin ∧ x'.slot = x.slot ∧ x'.kind = x.kind ∧ x'.epoch = x.epoch
      ∧ x'.recordNumber = x.recordNumber)
    (hatt : t.matcher.attempts = s.matcher.attempts) (hdl : t.service.downloads = s.service.downloads)
    (hslots : t.slots = s.slots) (hlive : LiveHasFlight t.service)
    (hwork : serviceWork t.service = x' :: serviceWork (segmentOver s).service
      ∨ serviceWork t.service = serviceWork (segmentOver s).service ++ [x']) : ServiceSound t := by
  obtain ⟨hjobs, hkinds, -⟩ := (serviceSound_iff s).mp h
  obtain ⟨ho, hk, hprogress⟩ := hsame
  have hcongr : ∀ j, sequencerWork t.service j = sequencerWork s.service j → SlotJob t j := fun j hj =>
    (hjobs j).congr (congrArg (look · j) hatt) (congrArg (look · j) hdl) hj (.of_eq (slot_of_slots hslots j))
  have hparts : ∀ j, sequencerWork t.service j = workOf j [x'] ++ sequencerWork (segmentOver s).service j
      ∨ sequencerWork t.service j = sequencerWork (segmentOver s).service j ++ workOf j [x'] := fun j => by
    simp only [sequencerWork_eq]
    obtain hw | hw := hwork <;> rw [hw]
    · exact .inl (workOf_cons ..)
    · exact .inr (workOf_append ..)
  refine (serviceSound_iff t).mpr ⟨fun j => ?_, fun y hy hyo => ?_, hlive⟩
  · by_cases hmine : x.origin = .sequencer ∧ x.slot = j
    · obtain ⟨hxo, rfl⟩ := hmine
      obtain ⟨hnil, -⟩ := job_of_flight h hx hxo
      have hold : sequencerWork s.service x.slot = [x] := by
        rw [segmentOver_work hx, workOf_single_same hxo rfl, hnil]
        rfl
      have hnew : sequencerWork t.service x.slot = [x'] := by
        have hsingle := workOf_single_same (ho.trans hxo) hk
        obtain hw | hw := hparts x.slot <;> rw [hw, hnil, hsingle]
        · rfl
        · rfl
      have hjob := hjobs x.slot
      unfold SlotJob at hjob ⊢
      rw [hold] at hjob
      rw [hnew, slot_of_slots hslots, show t.attempt x.slot = s.attempt x.slot from congrArg (look · x.slot) hatt,
        show t.download x.slot = s.download x.slot from congrArg (look · x.slot) hdl]
      exact hjob.progressed hprogress
    · have hother : ∀ z : Transaction, z.origin = x.origin → z.slot = x.slot → workOf j [z] = [] := fun z hzo hzk =>
        workOf_single_none (by
          rw [hzo, hzk]
          cases hxo : x.origin with
          | passThrough => exact .inl rfl
          | sequencer => exact .inr fun hxk => hmine ⟨hxo, hxk⟩)
      refine hcongr j ?_
      rw [segmentOver_work hx, hother x rfl rfl]
      obtain hw | hw := hparts j <;> rw [hw, hother x' ho hk]
      · exact List.append_nil _
  · have hmem : y = x' ∨ y ∈ serviceWork (segmentOver s).service := by
      obtain hw | hw := hwork <;> rw [hw] at hy
      · exact List.mem_cons.mp hy
      · exact (List.mem_append.mp hy).symm.imp_left List.mem_singleton.mp
    obtain rfl | hmem := hmem
    · obtain ⟨hkind, -⟩ := hprogress
      rw [hkind]
      exact hkinds x (by rw [serviceWork_of_flight hx]; exact List.mem_cons_self) (ho ▸ hyo)
    · exact segmentOver_kinds hkinds hx y hmem hyo

/-- A segment that starts takes the channel's first transaction into flight. -/
theorem serviceWork_of_next {c : ServiceChannel} {x : Transaction} {q : List Transaction}
    (h : nextTransaction c = some (x, q)) : serviceWork c = x :: q := by
  unfold nextTransaction at h
  unfold serviceWork
  split at h
  · rename_i hx; cases h; rw [hx]; rfl
  · rename_i hx hq; cases h; rw [hx, hq]; rfl
  · cases h

theorem ServiceSound.congr_work (h : ServiceSound s) (hatt : t.matcher.attempts = s.matcher.attempts)
    (hdl : t.service.downloads = s.service.downloads) (hwork : serviceWork t.service = serviceWork s.service)
    (hslots : t.slots = s.slots) (hlive : LiveHasFlight t.service) : ServiceSound t := by
  obtain ⟨hjobs, hkinds, -⟩ := (serviceSound_iff s).mp h
  refine (serviceSound_iff t).mpr ⟨fun j => ?_, ?_, hlive⟩
  · exact (hjobs j).congr (congrArg (look · j) hatt) (congrArg (look · j) hdl)
      (by rw [sequencerWork_eq, hwork]; rfl) (.of_eq (slot_of_slots hslots j))
  · unfold passThroughKinds; rw [hwork]; exact hkinds

/-- A download stands only in CONFIGURING, with the slot's epoch. -/
theorem ServiceSound.configuring_of_download (h : ServiceSound s) {k : Slot} {d : Download}
    (hd : s.download k = some d) : (s.slot k).state = .configuring ∧ d.epoch = (s.slot k).epoch := by
  obtain ⟨hjobs, -, -⟩ := (serviceSound_iff s).mp h
  have hjob := hjobs k
  unfold SlotJob JobFor at hjob
  revert hjob
  rw [hd]
  cases (s.slot k).state with
  | configuring =>
    rintro ⟨-, d', y, hd', he, -⟩
    cases hd'
    exact ⟨rfl, he⟩
  | identifying => rintro ⟨hnone, -⟩; cases hnone
  | _ => rintro ⟨-, hnone, -⟩; cases hnone

theorem cardArrived_serviceSound (k : Slot) (e : Epoch) (h : ServiceSound s) : ServiceSound (cardArrived k e s) := by
  unfold cardArrived
  split
  · rename_i hx
    obtain ⟨hx, -⟩ := hx
    have hjobless : (s.slot k).state.jobless = true := by obtain hx | hx := hx <;> rw [hx] <;> rfl
    have harrived : ServiceSound ((s.modSlot k fun r => { r with epoch := r.epoch + 1, cardPresent := true }).modPres k
        fun r => { r with auxSupply := true }) := h.congr rfl fun j => by
      rw [State.modPres_slot, State.modSlot_slot]
      split
      · rename_i hj; rw [hj]; exact .inr ⟨hjobless, hjobless⟩
      · exact .of_eq rfl
    dsimp only
    split
    · refine admissionGate_serviceSound k (harrived.congr rfl fun j => ?_)
      rw [enterState_slot]
      split
      · rename_i hj
        rw [hj, State.modPres_slot, State.modSlot_slot_same]
        exact .inr ⟨hjobless, rfl⟩
      · exact .of_eq rfl
    · exact harrived
  · exact h

theorem cardGone_serviceSound (hp : PowerSound s) (k : Slot) (h : ServiceSound s) : ServiceSound (cardGone k s) := by
  have hmoves : ∀ j, j ≠ k → SameJob (s.slot j) ((cardGone k s).slot j) := fun j hj =>
    PowerMove.sameJob hp (cardGone_slot_of_ne hj)
  have hjobless : ((cardGone k s).slot k).state.jobless = true := by
    cases htakes : (s.slot k).state.takesCardGone with
    | true =>
      rw [cardGone_slot_same k htakes]
      split
      · rename_i hq; dsimp only; rw [hq]; rfl
      · rfl
    | false =>
      rw [cardGone_slot_off k htakes]
      revert htakes
      dsimp only
      cases (s.slot k).state <;> decide
  obtain ⟨u, hgone, htasks, hslots⟩ : ∃ u, cardGone k s = withdraw k u ∧ tasks u = tasks s
      ∧ ∀ j, j ≠ k → u.slot j = s.slot j := by
    unfold cardGone
    split
    · exact ⟨_, rfl, emptySlot_tasks k s, fun j hj => by rw [emptySlot_slot, if_neg hj]⟩
    · exact ⟨_, rfl, rfl, fun _ _ => rfl⟩
  rw [hgone] at hmoves hjobless ⊢
  exact withdraw_serviceSound ((h.jobsOn _).congr htasks fun j hj => .of_eq (hslots j hj)) rfl
    (fun j hj => by rw [hslots j hj]; exact hmoves j hj) hjobless

theorem Effect.keeps_serviceSound (hp : PowerSound s) (h : ServiceSound s) (hd : Effect s t) : ServiceSound t := by
  have hlive : LiveHasFlight s.service := ((serviceSound_iff s).mp h).2.2
  cases hd with
  | served hd => exact hd.keeps_serviceSound hp h
  | lineAsserted k => exact lineAsserted_serviceSound k h
  | lineDeasserted k =>
    refine h.congr (lineDeasserted_tasks k s) fun j => ?_
    obtain hs | ⟨-, -, hx, hs⟩ := lineDeasserted_slot (s := s) j k <;> rw [hs]
    · exact .of_eq rfl
    · exact .inr ⟨by rw [hx]; rfl, rfl⟩
  | inserted k d e _ =>
    exact cardArrived_serviceSound (s := s.modPres k fun r => { r with phase := .seated, timer := .stopped }) k e
      (h.of_slots rfl rfl)
  | removed k d _ =>
    exact cardGone_serviceSound
      (s := s.modPres k fun r => { r with phase := .absent, timer := .stopped, auxSupply := false })
      (powerSound_of_slots hp rfl rfl) k (h.of_slots rfl rfl)
  | segmentStarted x q _ hx =>
    refine h.congr_work rfl rfl ?_ rfl fun _ _ _ => rfl
    rw [serviceWork_of_next hx]
    rfl
  | segmentTimedOut =>
    refine h.congr_work rfl rfl rfl rfl fun g hg hl => ?_
    obtain ⟨g', hg', rfl⟩ := Option.map_eq_some_iff.mp hg
    exact hlive g' hg' hl
  | segmentFreed => exact h.congr_work rfl rfl rfl rfl fun _ hg _ => by cases hg
  | segmentKept g x hrun _ p bytes r =>
    exact progressed_serviceSound h hrun.2.2 (x' := { x with position := p, gathered := bytes, repeatUsed := r })
      ⟨rfl, rfl, rfl, rfl, rfl⟩ rfl rfl rfl (fun _ hg _ => by cases hg) (.inl rfl)
  | segmentReturned g x hrun _ =>
    exact progressed_serviceSound h hrun.2.2 (x' := { x with repeatUsed := false }) ⟨rfl, rfl, rfl, rfl, rfl⟩
      rfl rfl rfl (fun _ hg _ => by cases hg) (.inr (serviceWork_queue ..))
  | identCompleted g x hrun hk o => exact identCompleted_serviceSound hp h hrun.2.2 hk o
  | completed g x hrun hk c => exact completed_serviceSound hp h hrun.2.2 hk c
  | rampGood k _ hr =>
    obtain ⟨hx, -⟩ := (rampEndTaken_iff s k).mp hr
    rw [rampGood_eq]
    refine startRamp_serviceSound (fun j hj => ?_) (rampEnded_serviceSound h hx)
    have hqueued : (s.slot j).state = .rampQueued := hp.queueState hj
    rw [rampEnded_slot, if_neg, hqueued]
    rintro rfl
    rw [hx] at hqueued
    cases hqueued
  | rampBad k _ _ =>
    unfold Machine.rampBad; split
    · exact reportFault_serviceSound hp h ..
    · exact h
  | rampDiscarded k ht hr => rw [rampEndTaken_of_sound s k hp ht] at hr; cases hr
  | powerLost k _ c _ =>
    exact reportFault_serviceSound (s := s.modPow k fun r => { r with filter := false })
      (modPow_powerSound hp k (fun r => { r with filter := false }) (fun _ => ⟨rfl, rfl, rfl, rfl⟩) (by simp))
      (h.of_slots rfl rfl) ..
  | configTimedOut k d hd =>
    obtain ⟨hx, hde⟩ := h.configuring_of_download hd
    exact reportFault_serviceSound_of_taken (s := s.setDownload k none) (powerSound_of_slots hp rfl rfl)
      (setDownload_jobsOn none (h.jobsOn _)) _ _ _ (by rw [State.setDownload_slot, hx]; rfl) hde.symm
  | built _ => exact h.congr (runBuild_tasks s) fun j => (runBuild_slot j).sameJob
  | frameAccepted _ f g long _ =>
    refine h.congr (acceptFrame_tasks f g long s) fun j => ?_
    obtain hs | ⟨m, -, hs⟩ := acceptFrame_slot (s := s) f g long j
    · exact .of_eq hs
    · exact hs.sameJob
  | frameServed f _ _ =>
    refine h.congr (serveFrame_tasks f _) fun j => ?_
    obtain hs | ⟨m, -, hs⟩ := serveFrame_slot (s := s.modCycle fun c => { c with holder := none }) f j
    · exact .of_eq hs
    · exact hs.sameJob
  | accounted x _ _ _ =>
    exact accounted_serviceSound (s := s.modCycle fun c => { c with exchange := none })
      (powerSound_of_slots hp rfl rfl) (h.of_slots rfl rfl) _ _
  | accessAccepted k p x hx _ _ ho hk _ =>
    obtain ⟨hjobs, hkinds, -⟩ := (serviceSound_iff s).mp h
    refine (serviceSound_iff _).mpr ⟨fun j => (hjobs j).congr rfl rfl ?_ (.of_eq rfl),
      passThroughKinds_queue x hkinds fun _ => hk, hlive⟩
    rw [queueTransaction_work, workOf_single_none (.inl ho), List.append_nil]
    rfl
  | _ => exact h.of_slots rfl rfl

theorem Done.keeps_serviceSound (hp : PowerSound s) (h : ServiceSound s) (hd : Done s t) : ServiceSound t := by
  obtain ⟨u, he, hposted⟩ := hd
  have htasks : tasks t = tasks u := by cases hposted <;> rfl
  exact (he.keeps_serviceSound hp h).of_slots htasks hposted.slots_eq

end

/-- Settles O12: a job begins, goes on and ends with its slot's state, and a withdrawal takes it. -/
theorem stepKeepsServiceSound : Obligations.StepKeepsServiceSound := fun _ _ hp hs hstep =>
  (step_keeps (P := fun s => PowerSound s ∧ ServiceSound s) (fun _ _ h => h)
    (fun u _ => ⟨coldReset_powerSound u, coldReset_serviceSound u⟩)
    (fun _ _ h hd => ⟨hd.keeps_powerSound h.1, hd.keeps_serviceSound h.1 h.2⟩) ⟨hp, hs⟩ hstep).2

end Sys2Proof.Machine
end

section
/-!
PROOF. The entries of a map, and a build as one change of the whole state (R134 to R137): the DROPs, the tries of the
parked slots and of the ADDs in their order, and the map offered.
-/
namespace Sys2Proof.Machine

/-! ## Notices -/

/-- The Management Unit with a notice posted. -/
def posted (b : NoticeBody) (m : Management) : Management := { m with notices := queueNotice b m.notices }

theorem postNotice_mgmt (b : NoticeBody) (s : State) : (postNotice b s).mgmt = posted b s.mgmt := rfl

/-- Notices posted one after the other. -/
theorem foldl_posted {α : Type} (b : α → NoticeBody) (xs : List α) (m : Management) :
    xs.foldl (fun m x => posted (b x) m) m =
      { m with notices := xs.foldl (fun queued x => queueNotice (b x) queued) m.notices } := by
  induction xs generalizing m with
  | nil => rfl
  | cons x xs ih => rw [List.foldl_cons, ih]; rfl

/-- The notice of a slot's entering a state (R7). -/
theorem enterState_mgmt (k : Slot) (x : SlotState) (s : State) : (enterState k x s).mgmt =
    posted (.slot k x (s.slot k).epoch (if x = .faulted ∨ x = .quarantined then (s.slot k).faultReason else none)
      (s.cyc k).cardDiag) s.mgmt := by
  have hslot : (s.modSlot k fun r => { r with state := x }).slot k = { s.slot k with state := x } :=
    State.modSlot_slot_same ..
  rw [enterState, postSlotNotice, postNotice_mgmt, slotNotice, hslot]
  rfl

/-! ## The entry of a slot -/

theorem mem_insertEntry {e x : MapEntry} {es : List MapEntry} :
    x ∈ insertEntry e es ↔ (x ∈ es ∧ x.slot ≠ e.slot) ∨ x = e := by
  simp only [insertEntry, List.append_assoc, List.mem_append, List.mem_filter, List.mem_singleton, decide_eq_true_eq]
  constructor
  · rintro (⟨hx, hlt⟩ | rfl | ⟨hx, hlt⟩)
    · exact .inl ⟨hx, Fin.ne_of_lt hlt⟩
    · exact .inr rfl
    · exact .inl ⟨hx, (Fin.ne_of_lt hlt).symm⟩
  · rintro (⟨hx, hne⟩ | rfl)
    · obtain hlt | hlt := Fin.lt_or_lt_of_ne hne
      · exact .inl ⟨hx, hlt⟩
      · exact .inr (.inr ⟨hx, hlt⟩)
    · exact .inr (.inl rfl)

theorem entryOf_filter {p : MapEntry → Bool} {es : List MapEntry} {k : Slot} (h : ∀ e ∈ es, e.slot = k → p e = true) :
    entryOf (es.filter p) k = entryOf es k := by
  unfold entryOf
  rw [List.find?_filter]
  refine List.find?_congr fun e he => ?_
  by_cases hk : e.slot = k
  · simp [hk, h e he hk]
  · simp [hk]

theorem entryOf_eq_none {es : List MapEntry} {k : Slot} : entryOf es k = none ↔ ∀ e ∈ es, e.slot ≠ k := by
  simp [entryOf]

theorem entryOf_append (es fs : List MapEntry) (k : Slot) :
    entryOf (es ++ fs) k = (entryOf es k).or (entryOf fs k) := List.find?_append ..

/-- An entry put in its place is its slot's, and the other slots keep theirs. -/
theorem entryOf_insertEntry (e : MapEntry) (es : List MapEntry) (k : Slot) :
    entryOf (insertEntry e es) k = if k = e.slot then some e else entryOf es k := by
  rw [insertEntry, entryOf_append, entryOf_append]
  have hsingle : entryOf [e] k = if k = e.slot then some e else none := by
    by_cases hk : k = e.slot
    · simp [entryOf, hk]
    · simp [entryOf, hk, Ne.symm hk]
  rw [hsingle]
  obtain hlt | heq | hlt := lt_trichotomy k e.slot
  · have hupper : entryOf (es.filter (e.slot < ·.slot)) k = none := by
      rw [entryOf_eq_none]
      intro x hx
      have hx : e.slot < x.slot := by simpa using (List.mem_filter.mp hx).2
      exact (Fin.ne_of_lt (hlt.trans hx)).symm
    rw [hupper, if_neg (Fin.ne_of_lt hlt), if_neg (Fin.ne_of_lt hlt), entryOf_filter]
    · simp
    · intro x _ hx; simp [hx, hlt]
  · have hlower : entryOf (es.filter (·.slot < e.slot)) k = none := by
      rw [entryOf_eq_none]
      intro x hx
      have hx : x.slot < e.slot := by simpa using (List.mem_filter.mp hx).2
      rw [heq]
      exact Fin.ne_of_lt hx
    rw [hlower, if_pos heq, if_pos heq]
    rfl
  · have hlower : entryOf (es.filter (·.slot < e.slot)) k = none := by
      rw [entryOf_eq_none]
      intro x hx
      have hx : x.slot < e.slot := by simpa using (List.mem_filter.mp hx).2
      exact Fin.ne_of_lt (hx.trans hlt)
    have hne : k ≠ e.slot := (Fin.ne_of_lt hlt).symm
    rw [hlower, if_neg hne, if_neg hne, entryOf_filter]
    · rfl
    · intro x _ hx; simp [hx, hlt]

/-! ## Tries -/

/-- A try depends on the state by the profiles, the settings, and the slot's epoch and profile index alone. -/
theorem tryPlace_congr {s t : State} {k : Slot} (hl : t.library = s.library) (hset : t.settings = s.settings)
    (he : (t.slot k).epoch = (s.slot k).epoch) (hp : (t.slot k).profileIndex = (s.slot k).profileIndex)
    (es : List MapEntry) : tryPlace t es k = tryPlace s es k := by
  unfold tryPlace State.profileOf State.profile
  rw [hl, hset, he, hp]

/-- The entry of a try bears the slot, its epoch and its profile's index. -/
theorem tryPlace_placed {s : State} {es : List MapEntry} {k : Slot} {e : MapEntry} (h : tryPlace s es k = .placed e) :
    e.slot = k ∧ e.epoch = (s.slot k).epoch ∧ e.profile = (s.slot k).profileIndex.getD 0
      ∧ placeRegion (outputRegions (es.filter (·.slot != k))) (s.profileOf k).outputLength (s.profileOf k).alignment
        = some e.output
      ∧ placeRegion (inputRegions (es.filter (·.slot != k))) (s.profileOf k).inputLength (s.profileOf k).alignment
        = some e.input
      ∧ fits s.settings (insertEntry e es) = true := by
  unfold tryPlace at h
  dsimp only at h
  split at h
  · cases h
  · rename_i output hout
    split at h
    · cases h
    · rename_i input hin
      split at h
      · rename_i hfits
        cases h
        exact ⟨rfl, rfl, rfl, hout, hin, hfits⟩
      · cases h

/-! ## The reports of tries -/

/-- The report of one try's outcome, taken in MAP_WAIT. -/
def reportTry (s : State) (x : Slot × Placement) : State :=
  match x.2 with
  | .placed _ => reportPlaced x.1 s
  | .parked reason => reportParked x.1 reason s

/-- The slots that were placed, and those that parked, among the outcomes of tries, in their order. -/
def placedIn (xs : List (Slot × Placement)) : List Slot := xs.filterMap fun x => match x.2 with
  | .placed _ => some x.1
  | .parked _ => none

def parkedIn (xs : List (Slot × Placement)) : List Slot := xs.filterMap fun x => match x.2 with
  | .placed _ => none
  | .parked _ => some x.1

@[simp] theorem placedIn_nil : placedIn [] = [] := rfl
@[simp] theorem parkedIn_nil : parkedIn [] = [] := rfl
@[simp] theorem placedIn_placed (k : Slot) (e : MapEntry) (xs : List (Slot × Placement)) :
    placedIn ((k, .placed e) :: xs) = k :: placedIn xs := rfl
@[simp] theorem placedIn_parked (k : Slot) (r : ParkReason) (xs : List (Slot × Placement)) :
    placedIn ((k, .parked r) :: xs) = placedIn xs := rfl
@[simp] theorem parkedIn_placed (k : Slot) (e : MapEntry) (xs : List (Slot × Placement)) :
    parkedIn ((k, .placed e) :: xs) = parkedIn xs := rfl
@[simp] theorem parkedIn_parked (k : Slot) (r : ParkReason) (xs : List (Slot × Placement)) :
    parkedIn ((k, .parked r) :: xs) = k :: parkedIn xs := rfl

theorem mem_placedIn {k : Slot} {xs : List (Slot × Placement)} :
    k ∈ placedIn xs ↔ ∃ e, (k, Placement.placed e) ∈ xs := by
  induction xs with
  | nil => simp
  | cons x xs ih =>
    obtain ⟨j, e | r⟩ := x
    · simp only [placedIn_placed, List.mem_cons, ih, Prod.mk.injEq, Placement.placed.injEq]
      constructor
      · rintro (rfl | ⟨e', he⟩)
        · exact ⟨e, .inl ⟨rfl, rfl⟩⟩
        · exact ⟨e', .inr he⟩
      · rintro ⟨e', ⟨rfl, -⟩ | he⟩
        · exact .inl rfl
        · exact .inr ⟨e', he⟩
    · simp [ih]

theorem reportTry_slot_of_ne {s : State} {x : Slot × Placement} {j : Slot} (h : j ≠ x.1) :
    (reportTry s x).slot j = s.slot j := by
  obtain ⟨k, e | r⟩ := x
  · show (reportPlaced k s).slot j = _
    unfold reportPlaced
    split
    · rw [enterState_slot_of_ne _ h, State.modSlot_slot_of_ne _ h]
    · rfl
  · show (reportParked k r s).slot j = _
    unfold reportParked
    split
    · exact State.modSlot_slot_of_ne _ h _
    · rfl

/-- What a reported outcome makes of its slot's record. -/
def triedRecord (r : SlotRecord) : Placement → SlotRecord
  | .placed _ => { r with state := .mapPending, parkReason := none }
  | .parked reason => { r with parkReason := some reason }

theorem reportTry_slot_same {s : State} {x : Slot × Placement} (h : (s.slot x.1).state = .mapWait) :
    (reportTry s x).slot x.1 = triedRecord (s.slot x.1) x.2 := by
  obtain ⟨k, e | r⟩ := x
  · show (reportPlaced k s).slot k = _
    unfold reportPlaced
    rw [if_pos h, enterState_slot_same, State.modSlot_slot_same]
    rfl
  · show (reportParked k r s).slot k = _
    unfold reportParked
    rw [if_pos h, State.modSlot_slot_same]
    rfl

theorem reportTry_modMaps (s : State) (x : Slot × Placement) (f : MapBuilder → MapBuilder) :
    reportTry (s.modMaps f) x = (reportTry s x).modMaps f := by
  obtain ⟨k, e | r⟩ := x
  · show reportPlaced k (s.modMaps f) = (reportPlaced k s).modMaps f
    unfold reportPlaced
    rw [State.modMaps_slot]
    split <;> rfl
  · show reportParked k r (s.modMaps f) = (reportParked k r s).modMaps f
    unfold reportParked
    rw [State.modMaps_slot]
    split <;> rfl

/-- The outcomes of tries reported in their order. -/
def reportTries (s : State) (xs : List (Slot × Placement)) : State := xs.foldl reportTry s

theorem reportTries_modMaps (s : State) (xs : List (Slot × Placement)) (f : MapBuilder → MapBuilder) :
    reportTries (s.modMaps f) xs = (reportTries s xs).modMaps f := by
  induction xs generalizing s with
  | nil => rfl
  | cons x xs ih =>
    show reportTries (reportTry (s.modMaps f) x) xs = (reportTries (reportTry s x) xs).modMaps f
    rw [reportTry_modMaps, ih]

theorem reportTries_same {β : Type} (view : State → β) (hplaced : ∀ k s, view (reportPlaced k s) = view s)
    (hparked : ∀ k r s, view (reportParked k r s) = view s) (xs : List (Slot × Placement)) (s : State) :
    view (reportTries s xs) = view s := by
  refine foldl_same s view reportTry (fun u x => ?_) xs
  obtain ⟨k, e | r⟩ := x
  · exact hplaced k u
  · exact hparked k r u

theorem reportTries_slot_of_not_mem {s : State} {xs : List (Slot × Placement)} {j : Slot}
    (h : ∀ x ∈ xs, x.1 ≠ j) : (reportTries s xs).slot j = s.slot j := by
  induction xs generalizing s with
  | nil => rfl
  | cons x xs ih =>
    show (reportTries (reportTry s x) xs).slot j = s.slot j
    rw [ih fun y hy => h y (List.mem_cons_of_mem _ hy), reportTry_slot_of_ne (h x List.mem_cons_self).symm]

theorem reportTries_slot_of_mem {s : State} {xs : List (Slot × Placement)} (hnodup : (xs.map (·.1)).Nodup)
    (hwait : ∀ x ∈ xs, (s.slot x.1).state = .mapWait) {x : Slot × Placement} (hx : x ∈ xs) :
    (reportTries s xs).slot x.1 = triedRecord (s.slot x.1) x.2 := by
  induction xs generalizing s with
  | nil => cases hx
  | cons y xs ih =>
    obtain ⟨hy, hnodup⟩ := List.nodup_cons.mp hnodup
    have hothers : ∀ z ∈ xs, z.1 ≠ y.1 := fun z hz heq =>
      hy (List.mem_map.mpr ⟨z, hz, heq⟩)
    show (reportTries (reportTry s y) xs).slot x.1 = _
    obtain rfl | hx := List.mem_cons.mp hx
    · rw [reportTries_slot_of_not_mem hothers, reportTry_slot_same (hwait x List.mem_cons_self)]
    · rw [ih hnodup (fun z hz => by
        rw [reportTry_slot_of_ne (hothers z hz)]
        exact hwait z (List.mem_cons_of_mem _ hz)) hx, reportTry_slot_of_ne (hothers x hx)]

theorem reportTry_mgmt {s : State} {x : Slot × Placement} (h : (s.slot x.1).state = .mapWait) :
    (reportTry s x).mgmt = (placedIn [x]).foldl
      (fun m k => posted (.slot k .mapPending (s.slot k).epoch none (s.cyc k).cardDiag) m) s.mgmt := by
  obtain ⟨k, e | r⟩ := x
  · show (reportPlaced k s).mgmt = _
    unfold reportPlaced
    rw [if_pos h, enterState_mgmt, State.modSlot_slot_same]
    rfl
  · show (reportParked k r s).mgmt = _
    unfold reportParked
    split <;> rfl

theorem reportTry_cyc (s : State) (x : Slot × Placement) (j : Slot) : (reportTry s x).cyc j = s.cyc j := by
  obtain ⟨k, e | r⟩ := x
  · show (reportPlaced k s).cyc j = _
    unfold reportPlaced; split <;> rfl
  · show (reportParked k r s).cyc j = _
    unfold reportParked; split <;> rfl

theorem placedIn_cons (x : Slot × Placement) (xs : List (Slot × Placement)) :
    placedIn (x :: xs) = placedIn [x] ++ placedIn xs := by
  obtain ⟨k, e | r⟩ := x <;> rfl

/-- The notices of the reports: one for each slot placed, as it enters MAP_PENDING (R7). -/
theorem reportTries_mgmt {s : State} {xs : List (Slot × Placement)} (hnodup : (xs.map (·.1)).Nodup)
    (hwait : ∀ x ∈ xs, (s.slot x.1).state = .mapWait) :
    (reportTries s xs).mgmt = (placedIn xs).foldl
      (fun m k => posted (.slot k .mapPending (s.slot k).epoch none (s.cyc k).cardDiag) m) s.mgmt := by
  induction xs generalizing s with
  | nil => rfl
  | cons y xs ih =>
    obtain ⟨hfresh, hnodup⟩ := List.nodup_cons.mp hnodup
    have hothers : ∀ z ∈ xs, z.1 ≠ y.1 := fun z hz heq => hfresh (List.mem_map.mpr ⟨z, hz, heq⟩)
    have hwait' : ∀ z ∈ xs, ((reportTry s y).slot z.1).state = .mapWait := fun z hz => by
      rw [reportTry_slot_of_ne (hothers z hz)]
      exact hwait z (List.mem_cons_of_mem _ hz)
    show (reportTries (reportTry s y) xs).mgmt = _
    rw [ih hnodup hwait', reportTry_mgmt (hwait y List.mem_cons_self), placedIn_cons y xs, List.foldl_append]
    refine List.foldl_ext _ _ _ fun m k hk => ?_
    obtain ⟨e, he⟩ := mem_placedIn.mp hk
    rw [reportTry_cyc, reportTry_slot_of_ne (hothers _ he)]

/-! ## The folds of a build -/

theorem buildTries_cons (s : State) (es : List MapEntry) (k : Slot) (ks : List Slot) :
    buildTries s es (k :: ks) = match tryPlace s es k with
      | .placed e => ((buildTries s (insertEntry e es) ks).1, (k, .placed e) :: (buildTries s (insertEntry e es) ks).2)
      | .parked reason => ((buildTries s es ks).1, (k, .parked reason) :: (buildTries s es ks).2) := by
  rw [buildTries]
  cases h : tryPlace s es k with
  | placed e =>
    obtain ⟨rfl, -⟩ := tryPlace_placed h
    rfl
  | parked reason => rfl

theorem buildTries_append (s : State) (es : List MapEntry) (ks js : List Slot) :
    buildTries s es (ks ++ js) = ((buildTries s (buildTries s es ks).1 js).1,
      (buildTries s es ks).2 ++ (buildTries s (buildTries s es ks).1 js).2) := by
  induction ks generalizing es with
  | nil => rfl
  | cons k ks ih =>
    rw [List.cons_append, buildTries_cons, buildTries_cons]
    cases tryPlace s es k <;> simp [ih]

theorem buildTries_slots (s : State) (es : List MapEntry) (ks : List Slot) : (buildTries s es ks).2.map (·.1) = ks := by
  induction ks generalizing es with
  | nil => rfl
  | cons k ks ih =>
    rw [buildTries_cons]
    cases tryPlace s es k <;> simp [ih]

theorem buildTries_congr {s t : State} (hl : t.library = s.library) (hset : t.settings = s.settings) (es : List MapEntry)
    (ks : List Slot) (hslots : ∀ k ∈ ks, (t.slot k).epoch = (s.slot k).epoch
      ∧ (t.slot k).profileIndex = (s.slot k).profileIndex) : buildTries t es ks = buildTries s es ks := by
  induction ks generalizing es with
  | nil => rfl
  | cons k ks ih =>
    obtain ⟨he, hp⟩ := hslots k List.mem_cons_self
    have hrest := fun es => ih es fun j hj => hslots j (List.mem_cons_of_mem _ hj)
    rw [buildTries_cons, buildTries_cons, tryPlace_congr hl hset he hp]
    cases tryPlace s es k <;> simp [hrest]

/-- The outcome of one try: the entries that it leaves. -/
def triedEntries (es : List MapEntry) : Placement → List MapEntry
  | .placed e => insertEntry e es
  | .parked _ => es

theorem reportTry_fixtures (s : State) (x : Slot × Placement) :
    (reportTry s x).library = s.library ∧ (reportTry s x).settings = s.settings := by
  obtain ⟨k, e | r⟩ := x
  · show (reportPlaced k s).library = _ ∧ (reportPlaced k s).settings = _
    unfold reportPlaced; split <;> exact ⟨rfl, rfl⟩
  · show (reportParked k r s).library = _ ∧ (reportParked k r s).settings = _
    unfold reportParked; split <;> exact ⟨rfl, rfl⟩

/-- The Map Wait List without the slots that were placed. -/
def leaveWaitList (ks : List Slot) (m : MapBuilder) : MapBuilder :=
  { m with waitList := m.waitList.filter fun j => !ks.contains j }

/-- The Map Wait List with the slots that parked at its tail. -/
def joinWaitList (ks : List Slot) (m : MapBuilder) : MapBuilder := { m with waitList := m.waitList ++ ks }

theorem leaveWaitList_append (ks js : List Slot) (m : MapBuilder) :
    leaveWaitList js (leaveWaitList ks m) = leaveWaitList (ks ++ js) m := by
  simp only [leaveWaitList, List.filter_filter]
  congr 2
  funext j
  simp only [List.contains_append, Bool.not_or, Bool.and_comm]

theorem joinWaitList_append (ks js : List Slot) (m : MapBuilder) :
    joinWaitList js (joinWaitList ks m) = joinWaitList (ks ++ js) m := by
  simp [joinWaitList]

theorem modMaps_modMaps (s : State) (f g : MapBuilder → MapBuilder) :
    (s.modMaps f).modMaps g = s.modMaps fun m => g (f m) := rfl

theorem retryParked_eq (b : BuildState) (k : Slot) :
    retryParked b k =
      { state := (reportTry b.state (k, tryPlace b.state b.entries k)).modMaps
          (leaveWaitList (placedIn [(k, tryPlace b.state b.entries k)]))
        entries := triedEntries b.entries (tryPlace b.state b.entries k)
        placed := b.placed ++ placedIn [(k, tryPlace b.state b.entries k)] } := by
  unfold retryParked
  cases tryPlace b.state b.entries k with
  | placed e =>
    have hleave : (fun m : MapBuilder => { m with waitList := m.waitList.filter (· != k) })
        = leaveWaitList [k] := by
      funext m
      simp only [leaveWaitList]
      congr 2
      funext j
      rw [Bool.eq_iff_iff]
      simp
    dsimp only
    rw [hleave, placedIn_placed, placedIn_nil, ← reportTry_modMaps]
    rfl
  | parked reason =>
    have hleave : leaveWaitList [] = id := by
      funext m
      simp [leaveWaitList]
    dsimp only
    rw [placedIn_parked, placedIn_nil, hleave, List.append_nil]
    rfl

theorem applyAdd_eq (b : BuildState) (k : Slot) :
    applyAdd b k =
      { state := (reportTry b.state (k, tryPlace b.state b.entries k)).modMaps
          (joinWaitList (parkedIn [(k, tryPlace b.state b.entries k)]))
        entries := triedEntries b.entries (tryPlace b.state b.entries k)
        placed := b.placed ++ placedIn [(k, tryPlace b.state b.entries k)] } := by
  unfold applyAdd
  cases tryPlace b.state b.entries k with
  | placed e =>
    have hjoin : joinWaitList [] = id := by
      funext m
      simp [joinWaitList]
    dsimp only
    rw [parkedIn_placed, parkedIn_nil, hjoin]
    rfl
  | parked reason =>
    dsimp only
    rw [placedIn_parked, placedIn_nil, List.append_nil, parkedIn_parked, parkedIn_nil, ← reportTry_modMaps]
    rfl

theorem buildTries_cons_eq (s : State) (es : List MapEntry) (k : Slot) (ks : List Slot) :
    buildTries s es (k :: ks) =
      ((buildTries s (triedEntries es (tryPlace s es k)) ks).1,
        (k, tryPlace s es k) :: (buildTries s (triedEntries es (tryPlace s es k)) ks).2) := by
  rw [buildTries_cons]
  cases tryPlace s es k <;> rfl

theorem parkedIn_cons (x : Slot × Placement) (xs : List (Slot × Placement)) :
    parkedIn (x :: xs) = parkedIn [x] ++ parkedIn xs := by
  obtain ⟨k, e | r⟩ := x <;> rfl

/-- A fold of build steps over distinct slots, each of which reports its try and moves the Map Wait List by its outcome. -/
theorem foldl_tries {act : BuildState → Slot → BuildState} {wait : List (Slot × Placement) → MapBuilder → MapBuilder}
    (hnil : wait [] = id) (hcons : ∀ x xs m, wait xs (wait [x] m) = wait (x :: xs) m)
    (hact : ∀ b k, act b k =
      { state := (reportTry b.state (k, tryPlace b.state b.entries k)).modMaps
          (wait [(k, tryPlace b.state b.entries k)])
        entries := triedEntries b.entries (tryPlace b.state b.entries k)
        placed := b.placed ++ placedIn [(k, tryPlace b.state b.entries k)] })
    (ks : List Slot) (hnodup : ks.Nodup) (b : BuildState) :
    ks.foldl act b =
      { state := (reportTries b.state (buildTries b.state b.entries ks).2).modMaps
          (wait (buildTries b.state b.entries ks).2)
        entries := (buildTries b.state b.entries ks).1
        placed := b.placed ++ placedIn (buildTries b.state b.entries ks).2 } := by
  induction ks generalizing b with
  | nil =>
    show b = _
    rw [buildTries, hnil, placedIn_nil, List.append_nil]
    rfl
  | cons k ks ih =>
    obtain ⟨hk, hnodup⟩ := List.nodup_cons.mp hnodup
    obtain ⟨hl, hset⟩ := reportTry_fixtures b.state (k, tryPlace b.state b.entries k)
    have htries : ∀ es, buildTries ((reportTry b.state (k, tryPlace b.state b.entries k)).modMaps
        (wait [(k, tryPlace b.state b.entries k)])) es ks = buildTries b.state es ks := fun es =>
      buildTries_congr (t := (reportTry b.state (k, tryPlace b.state b.entries k)).modMaps
          (wait [(k, tryPlace b.state b.entries k)])) hl hset es ks fun j hj => by
        rw [State.modMaps_slot, reportTry_slot_of_ne]
        · exact ⟨rfl, rfl⟩
        · rintro rfl; exact hk hj
    rw [List.foldl_cons, ih hnodup, hact]
    dsimp only
    rw [htries, buildTries_cons_eq]
    generalize buildTries b.state (triedEntries b.entries (tryPlace b.state b.entries k)) ks = rest
    dsimp only
    rw [placedIn_cons _ rest.2, reportTries_modMaps, modMaps_modMaps, List.append_assoc]
    simp only [hcons]
    rfl

/-! ## A build as one change -/

theorem triedSlots_eq (s : State) : triedSlots s = s.maps.waitList ++ addedSlots s.maps.changes := rfl

theorem count_addedSlots (k : Slot) (cs : List Change) : (addedSlots cs).count k = cs.count (.add k) := by
  induction cs with
  | nil => rfl
  | cons c cs ih =>
    cases c with
    | add j =>
      have hcons : addedSlots (.add j :: cs) = j :: addedSlots cs := rfl
      rw [hcons, List.count_cons, List.count_cons, ih]
      simp
    | drop j =>
      have hcons : addedSlots (.drop j :: cs) = addedSlots cs := rfl
      rw [hcons, List.count_cons, ih]
      simp

/-- The slots that a build tries each stand in MAP_WAIT, and none is tried twice. -/
theorem MapSlotsSound.tried {s : State} (h : MapSlotsSound s) :
    (triedSlots s).Nodup ∧ ∀ k ∈ triedSlots s, (s.slot k).state = .mapWait := by
  have hcount : ∀ k, (triedSlots s).count k = if (s.slot k).state = .mapWait then 1 else 0 := fun k => by
    obtain ⟨-, -, hk, -⟩ := h k
    rw [triedSlots_eq, List.count_append, count_addedSlots, Nat.add_comm]
    exact hk
  refine ⟨List.nodup_iff_count_le_one.mpr fun k => ?_, fun k hk => ?_⟩
  · rw [hcount]; split <;> omega
  · have hpos := List.count_pos_iff.mpr hk
    rw [hcount] at hpos
    by_contra hx
    rw [if_neg hx] at hpos
    omega

/-- Of distinct slots tried, those that were not placed parked. -/
theorem filter_placedIn {xs : List (Slot × Placement)} (hnodup : (xs.map (·.1)).Nodup) :
    (xs.map (·.1)).filter (fun k => !(placedIn xs).contains k) = parkedIn xs := by
  induction xs with
  | nil => rfl
  | cons x xs ih =>
    obtain ⟨hx, hrest⟩ := List.nodup_cons.mp hnodup
    have hsub : ∀ k ∈ placedIn xs, k ∈ xs.map (·.1) := fun k hk => by
      obtain ⟨e, he⟩ := mem_placedIn.mp hk
      exact List.mem_map.mpr ⟨_, he, rfl⟩
    obtain ⟨k, e | r⟩ := x
    · rw [List.map_cons, placedIn_placed, parkedIn_placed, ← ih hrest, List.filter_cons_of_neg (by simp)]
      refine List.filter_congr fun j hj => ?_
      have hjk : j ≠ k := by rintro rfl; exact hx hj
      simp [hjk]
    · rw [List.map_cons, placedIn_parked, parkedIn_parked, ← ih hrest, List.filter_cons_of_pos]
      simpa using fun hk => hx (hsub k hk)

theorem modMaps_congr {s : State} {f g : MapBuilder → MapBuilder} (h : f s.maps = g s.maps) :
    s.modMaps f = s.modMaps g := by
  simp only [State.modMaps, h]

theorem reportTries_maps (s : State) (xs : List (Slot × Placement)) : (reportTries s xs).maps = s.maps :=
  reportTries_same State.maps (fun k s => by unfold reportPlaced; split <;> rfl)
    (fun k r s => by unfold reportParked; split <;> rfl) xs s

theorem reportTries_append (s : State) (xs ys : List (Slot × Placement)) :
    reportTries s (xs ++ ys) = reportTries (reportTries s xs) ys := List.foldl_append

/-- The tries of the build that is due in `s`: the entries at the end and the outcomes. -/
def dueTries (s : State) : List MapEntry × List (Slot × Placement) :=
  buildTries s (keptEntries s.maps) (triedSlots s)

theorem dueTries_slots (s : State) : (dueTries s).2.map (·.1) = triedSlots s := buildTries_slots ..

/-- A build carried out: the tries reported, the Change List taken, and the slots that parked left in the Map Wait List. -/
theorem runBuild_eq {s : State} (hnodup : (triedSlots s).Nodup) :
    runBuild s = offerMap (removedSlots s.maps)
      { state := (reportTries s (dueTries s).2).modMaps fun m =>
          { m with changes := [], waitList := (triedSlots s).filter fun k => !(placedIn (dueTries s).2).contains k }
        entries := (dueTries s).1, placed := placedIn (dueTries s).2 } := by
  rw [triedSlots_eq] at hnodup
  obtain ⟨hwait, hadds, hdisjoint⟩ := List.nodup_append.mp hnodup
  let start : State := s.modMaps fun m => { m with changes := [] }
  let first := buildTries s (keptEntries s.maps) s.maps.waitList
  let second := buildTries s first.1 (addedSlots s.maps.changes)
  have hfirst : buildTries start (keptEntries s.maps) s.maps.waitList = first :=
    buildTries_congr (s := s) (t := start) rfl rfl _ _ fun _ _ => ⟨rfl, rfl⟩
  have hslots : first.2.map (·.1) = s.maps.waitList := buildTries_slots ..
  have hslots' : second.2.map (·.1) = addedSlots s.maps.changes := buildTries_slots ..
  have hdue : dueTries s = (second.1, first.2 ++ second.2) := buildTries_append ..
  have hretried := foldl_tries (act := retryParked) (wait := fun xs => leaveWaitList (placedIn xs))
    (by funext m; simp [leaveWaitList]) (fun x xs m => by rw [leaveWaitList_append, ← placedIn_cons]) retryParked_eq
    s.maps.waitList hwait ⟨start, keptEntries s.maps, []⟩
  dsimp only at hretried
  rw [hfirst, reportTries_modMaps, modMaps_modMaps, List.nil_append] at hretried
  let middle : BuildState := ⟨(reportTries s first.2).modMaps fun m => leaveWaitList (placedIn first.2) { m with changes := [] },
    first.1, placedIn first.2⟩
  have hsecond : buildTries middle.state first.1 (addedSlots s.maps.changes) = second := by
    refine buildTries_congr (t := middle.state) ?_ ?_ _ _ fun k hk => ?_
    · exact reportTries_same State.library (fun k s => by unfold reportPlaced; split <;> rfl)
        (fun k r s => by unfold reportParked; split <;> rfl) _ _
    · exact reportTries_same State.settings (fun k s => by unfold reportPlaced; split <;> rfl)
        (fun k r s => by unfold reportParked; split <;> rfl) _ _
    · have hslot : middle.state.slot k = s.slot k := by
        show (State.modMaps _ _).slot k = _
        rw [State.modMaps_slot]
        refine reportTries_slot_of_not_mem fun x hx hxk => hdisjoint x.1 ?_ k hk hxk
        rw [← hslots]
        exact List.mem_map_of_mem hx
      rw [hslot]
      exact ⟨rfl, rfl⟩
  have hadded := foldl_tries (act := applyAdd) (wait := fun xs => joinWaitList (parkedIn xs))
    (by funext m; simp [joinWaitList]) (fun x xs m => by rw [joinWaitList_append, ← parkedIn_cons]) applyAdd_eq
    (addedSlots s.maps.changes) hadds middle
  rw [hsecond] at hadded
  have hplaced : placedIn (first.2 ++ second.2) = placedIn first.2 ++ placedIn second.2 := List.filterMap_append
  have hmem : ∀ {xs : List (Slot × Placement)} {k : Slot}, k ∈ placedIn xs → k ∈ xs.map (·.1) := fun hk => by
    obtain ⟨e, he⟩ := mem_placedIn.mp hk
    exact List.mem_map.mpr ⟨_, he, rfl⟩
  have hlist : s.maps.waitList.filter (fun k => !(placedIn first.2).contains k) ++ parkedIn second.2
      = (s.maps.waitList ++ addedSlots s.maps.changes).filter
        fun k => !(placedIn (first.2 ++ second.2)).contains k := by
    rw [List.filter_append, hplaced, ← filter_placedIn (hslots' ▸ hadds), hslots']
    congr 1
    · refine List.filter_congr fun k hk => ?_
      have hnot : k ∉ placedIn second.2 := fun hk' => hdisjoint k hk k (hslots' ▸ hmem hk') rfl
      simp [hnot]
    · refine List.filter_congr fun k hk => ?_
      have hnot : k ∉ placedIn first.2 := fun hk' => hdisjoint k (hslots ▸ hmem hk') k hk rfl
      simp [hnot]
  show offerMap _ ((addedSlots s.maps.changes).foldl applyAdd
    (s.maps.waitList.foldl retryParked ⟨start, keptEntries s.maps, []⟩)) = _
  rw [hretried]
  show offerMap _ ((addedSlots s.maps.changes).foldl applyAdd middle) = _
  rw [hadded, hdue, triedSlots_eq]
  dsimp only
  rw [hplaced, ← hplaced, ← hlist, reportTries_append]
  congr 2
  rw [show middle.state = (reportTries s first.2).modMaps fun m =>
    leaveWaitList (placedIn first.2) { m with changes := [] } from rfl, reportTries_modMaps, modMaps_modMaps]
  refine modMaps_congr ?_
  rw [reportTries_maps, reportTries_maps]
  rfl

theorem removedSlots_eq (s : State) : removedSlots s.maps = dropsOf s := by
  refine List.filter_congr fun k _ => ?_
  simp

/-- The state in which a build leaves the coupler but for the map it offers. -/
def buildReported (s : State) : State :=
  (reportTries s (dueTries s).2).modMaps fun m =>
    { m with changes := [], waitList := (triedSlots s).filter fun k => !(placedIn (dueTries s).2).contains k
             recheck := false }

/-- A due build leaves the coupler with its tries reported, and offers a map that differs with its notice (R137). -/
theorem runBuild_cases {s : State} (hnodup : (triedSlots s).Nodup) :
    (dropsOf s = [] ∧ placedIn (dueTries s).2 = [] ∧ runBuild s = buildReported s)
      ∨ (¬ (dropsOf s = [] ∧ placedIn (dueTries s).2 = [])
        ∧ runBuild s = postNotice (.mapOffered (nextGeneration s.maps.active.generation)
            (allSlots.filter (· ∈ placedIn (dueTries s).2)) (dropsOf s))
          ((buildReported s).modMaps fun m =>
            { m with offered := some ⟨nextGeneration s.maps.active.generation, (dueTries s).1⟩ })) := by
  rw [runBuild_eq hnodup, offerMap, removedSlots_eq]
  dsimp only
  split
  · rename_i h
    simp only [Bool.and_eq_true, List.isEmpty_iff] at h
    exact .inl ⟨h.1, h.2, rfl⟩
  · rename_i h
    simp only [Bool.and_eq_true, List.isEmpty_iff] at h
    refine .inr ⟨h, ?_⟩
    have hmaps := reportTries_maps s (dueTries s).2
    have hgen : ((reportTries s (dueTries s).2).modMaps fun m => { m with
        changes := [], waitList := (triedSlots s).filter fun k => !(placedIn (dueTries s).2).contains k }).maps.active
          = s.maps.active := by rw [State.modMaps_maps, hmaps]
    rw [State.modMaps_maps, hgen]
    rfl

theorem buildDue_offered {s : State} (h : buildDue s.maps = true) : s.maps.offered = none := by
  unfold buildDue at h
  simp only [Bool.and_eq_true, Option.isNone_iff_eq_none] at h
  exact h.1

section
variable {s : State}

theorem buildReported_slot (j : Slot) : (buildReported s).slot j = (reportTries s (dueTries s).2).slot j := rfl

theorem buildReported_slot_of_mem (h : MapSlotsSound s) {x : Slot × Placement} (hx : x ∈ (dueTries s).2) :
    (buildReported s).slot x.1 = triedRecord (s.slot x.1) x.2 := by
  obtain ⟨hnodup, hwait⟩ := h.tried
  rw [buildReported_slot]
  refine reportTries_slot_of_mem (by rw [dueTries_slots]; exact hnodup) (fun y hy => hwait y.1 ?_) hx
  rw [← dueTries_slots]
  exact List.mem_map_of_mem hy

theorem buildReported_slot_of_not_mem {j : Slot} (h : j ∉ triedSlots s) : (buildReported s).slot j = s.slot j := by
  rw [buildReported_slot]
  refine reportTries_slot_of_not_mem fun x hx hxj => h ?_
  rw [← dueTries_slots, ← hxj]
  exact List.mem_map_of_mem hx

theorem buildReported_mgmt (h : MapSlotsSound s) : (buildReported s).mgmt = { s.mgmt with
    notices := (placedIn (dueTries s).2).foldl
      (fun queued k => queueNotice (.slot k .mapPending (s.slot k).epoch none (s.cyc k).cardDiag) queued)
      s.mgmt.notices } := by
  obtain ⟨hnodup, hwait⟩ := h.tried
  rw [← foldl_posted]
  refine reportTries_mgmt (by rw [dueTries_slots]; exact hnodup) fun y hy => hwait y.1 ?_
  rw [← dueTries_slots]
  exact List.mem_map_of_mem hy

theorem buildReported_maps : (buildReported s).maps = { s.maps with
    changes := [], waitList := (triedSlots s).filter fun k => !(placedIn (dueTries s).2).contains k
    recheck := false } := by
  rw [buildReported, State.modMaps_maps, reportTries_maps]

theorem buildReported_same {β : Type} (view : State → β) (hplaced : ∀ k s, view (reportPlaced k s) = view s)
    (hparked : ∀ k r s, view (reportParked k r s) = view s) (hmaps : ∀ s f, view (State.modMaps s f) = view s) :
    view (buildReported s) = view s := by
  rw [buildReported, hmaps]
  exact reportTries_same view hplaced hparked _ _

end

/-- Settles O34: the folds of a build are the tries in their order with their outcomes reported. -/
theorem buildOffersMap : Obligations.BuildOffersMap := by
  intro s
  refine ⟨fun h => ?_, fun hdue hmaps => ?_⟩
  · show Host.Outcome.next _ = _
    rw [h]
    rfl
  intro kept tries placed same generation slotNotices
  have htries : tries = dueTries s := rfl
  have hplaced : placed = placedIn (dueTries s).2 := rfl
  have hexec : exec .build s = .next (runBuild s) := by
    show Host.Outcome.next _ = _
    rw [hdue]
    rfl
  have hview : ∀ {β : Type} (view : State → β), (∀ k s, view (reportPlaced k s) = view s) →
      (∀ k r s, view (reportParked k r s) = view s) → (∀ s f, view (State.modMaps s f) = view s) →
      (∀ b s, view (postNotice b s) = view s) → view (runBuild s) = view s := fun view h1 h2 h3 h4 => by
    obtain ⟨-, -, h⟩ | ⟨-, h⟩ := runBuild_cases hmaps.tried.1 <;> rw [h]
    · exact buildReported_same view h1 h2 h3
    · rw [h4, h3]; exact buildReported_same view h1 h2 h3
  have hslot : ∀ k, (runBuild s).slot k = (buildReported s).slot k := fun k => by
    obtain ⟨-, -, h⟩ | ⟨-, h⟩ := runBuild_cases hmaps.tried.1 <;> rw [h]
    rfl
  refine ⟨runBuild s, hexec, fun k e he => ?_, fun k reason hr => ?_, fun k hk => ?_, ?_, ?_, ?_, ?_, ?_, ?_, ?_, ?_⟩
  · rw [hslot]; exact buildReported_slot_of_mem hmaps he
  · rw [hslot]; exact buildReported_slot_of_mem hmaps hr
  · rw [hslot]; exact buildReported_slot_of_not_mem hk
  · obtain ⟨hd, hp, h⟩ | ⟨hne, h⟩ := runBuild_cases hmaps.tried.1 <;> rw [h]
    · rw [buildReported_maps, if_pos ⟨hd, hp⟩, ← buildDue_offered hdue]
      rfl
    · have hsame : ¬ same := hne
      rw [if_neg hsame, postNotice_maps, State.modMaps_maps, buildReported_maps]
      rfl
  · obtain ⟨hd, hp, h⟩ | ⟨hne, h⟩ := runBuild_cases hmaps.tried.1 <;> rw [h]
    · rw [buildReported_mgmt hmaps, if_pos ⟨hd, hp⟩, hp]
      rfl
    · have hsame : ¬ same := hne
      have hmember : (fun k => decide (k ∈ placedIn (dueTries s).2)) = fun k => placed.contains k := by
        funext k
        rw [hplaced, List.contains_eq_mem]
      rw [if_neg hsame, postNotice_mgmt, State.modMaps_mgmt, buildReported_mgmt hmaps, hmember]
      rfl
  · exact runBuild_presence s
  · exact hview State.matcher (fun k s => by unfold reportPlaced; split <;> rfl)
      (fun k r s => by unfold reportParked; split <;> rfl) (fun _ _ => rfl) fun _ _ => rfl
  · exact library_of_fixtures (fixtures_runBuild s)
  · exact runBuild_power s
  · exact hview State.service (fun k s => by unfold reportPlaced; split <;> rfl)
      (fun k r s => by unfold reportParked; split <;> rfl) (fun _ _ => rfl) fun _ _ => rfl
  · exact hview State.cycle (fun k s => by unfold reportPlaced; split <;> rfl)
      (fun k r s => by unfold reportParked; split <;> rfl) (fun _ _ => rfl) fun _ _ => rfl

end Sys2Proof.Machine
end

section
/-!
PROOF. The swap as one change of the whole state (R139, R158): which slots enter RUNNING, with what buffers and which
notices.
-/
namespace Sys2Proof.Machine

/-! ## The swap of one slot -/

/-- The entry with which a slot enters RUNNING at a swap: it is in MAP_PENDING and the entry bears its epoch (R139). -/
def swapEntry (m : ImageMap) (s : State) (k : Slot) : Option MapEntry :=
  if (s.slot k).state = .mapPending then (entryOf m.entries k).filter fun e => e.epoch == (s.slot k).epoch else none

theorem swapEntry_eq_some {m : ImageMap} {s : State} {k : Slot} {e : MapEntry} : swapEntry m s k = some e ↔
    (s.slot k).state = .mapPending ∧ entryOf m.entries k = some e ∧ e.epoch = (s.slot k).epoch := by
  unfold swapEntry
  split
  · rename_i h; simp [h, Option.filter_eq_some_iff]
  · rename_i h; simp [h]

theorem swapEntry_congr {m : ImageMap} {s t : State} {k : Slot} (h : t.slot k = s.slot k) :
    swapEntry m t k = swapEntry m s k := by rw [swapEntry, swapEntry, h]

/-- The buffers of a slot that enters RUNNING (R158). -/
def freshBuffers (e : MapEntry) : CycleSlot :=
  { missCount := 0, lastOutput := List.replicate (regionLength e.output) 0
    lastInput := List.replicate (regionLength e.input) 0, inputValid := false, cardDiag := false }

theorem reportSwapped_eq (k : Slot) (s : State) : reportSwapped k s =
    match swapEntry s.maps.active s k with
    | some e => enterRunning e s
    | none => s := by
  unfold reportSwapped
  cases he : entryOf s.maps.active.entries k with
  | none =>
    have hnone : swapEntry s.maps.active s k = none := by
      rw [Option.eq_none_iff_forall_ne_some]
      intro e h
      obtain ⟨-, h, -⟩ := swapEntry_eq_some.mp h
      rw [he] at h; cases h
    rw [hnone]
  | some e =>
    dsimp only
    split
    · rename_i h
      obtain ⟨hx, hc⟩ := h
      have hsome : swapEntry s.maps.active s k = some e :=
        swapEntry_eq_some.mpr ⟨hx, he, (eq_of_beq (show ((s.slot k).epoch == e.epoch) = true from hc)).symm⟩
      rw [hsome]
    · rename_i h
      have hnone : swapEntry s.maps.active s k = none := by
        rw [Option.eq_none_iff_forall_ne_some]
        intro e' h'
        obtain ⟨hx, h', hep⟩ := swapEntry_eq_some.mp h'
        rw [he] at h'
        cases h'
        exact h ⟨hx, by simp [current, hep]⟩
      rw [hnone]

theorem enterRunning_slot (e : MapEntry) (s : State) (j : Slot) : (enterRunning e s).slot j =
    if j = e.slot then { s.slot e.slot with state := .running, cleanRun := 0 } else s.slot j := by
  unfold enterRunning
  rw [enterState_slot]
  by_cases hj : j = e.slot
  · rw [if_pos hj, if_pos hj, State.modSlot_slot_same, State.modCyc_slot]
  · rw [if_neg hj, if_neg hj, State.modSlot_slot_of_ne _ hj, State.modCyc_slot]

theorem enterRunning_cyc (e : MapEntry) (s : State) (j : Slot) : (enterRunning e s).cyc j =
    if j = e.slot then freshBuffers e else s.cyc j := look_amend ..

theorem enterRunning_mgmt (e : MapEntry) (s : State) : (enterRunning e s).mgmt =
    posted (.slot e.slot .running (s.slot e.slot).epoch none false) s.mgmt := by
  unfold enterRunning
  rw [enterState_mgmt, State.modSlot_slot_same, State.modCyc_slot, State.modSlot_cyc, State.modCyc_cyc_same]
  rfl

/-! ## The swap of all slots -/

/-- A run of swap reports over distinct slots. -/
theorem eachSlot_reportSwapped {m : ImageMap} (ks : List Slot) (hks : ks.Nodup) (s : State) (hm : s.maps.active = m) :
    (∀ j, (eachSlot ks reportSwapped s).slot j =
        if j ∈ ks ∧ (swapEntry m s j).isSome = true then { s.slot j with state := .running, cleanRun := 0 }
        else s.slot j)
      ∧ (∀ j, (eachSlot ks reportSwapped s).cyc j =
        if j ∈ ks then ((swapEntry m s j).map freshBuffers).getD (s.cyc j) else s.cyc j)
      ∧ (eachSlot ks reportSwapped s).mgmt = (ks.filter fun k => (swapEntry m s k).isSome).foldl
          (fun u k => posted (.slot k .running (s.slot k).epoch none false) u) s.mgmt := by
  induction ks generalizing s with
  | nil => exact ⟨fun j => by simp [eachSlot], fun j => by simp [eachSlot], rfl⟩
  | cons k ks ih =>
    obtain ⟨hk, hks⟩ := List.nodup_cons.mp hks
    have hactive : (reportSwapped k s).maps.active = m := by rw [reportSwapped_maps, hm]
    obtain ⟨hslots, hcycs, hmgmt⟩ := ih hks (reportSwapped k s) hactive
    have heach : eachSlot (k :: ks) reportSwapped s = eachSlot ks reportSwapped (reportSwapped k s) := rfl
    have hone := reportSwapped_eq k s
    rw [hm] at hone
    rw [heach]
    cases he : swapEntry m s k with
    | none =>
      rw [he] at hone
      dsimp only at hone
      rw [hone] at hslots hcycs hmgmt ⊢
      refine ⟨fun j => ?_, fun j => ?_, ?_⟩
      · rw [hslots]
        by_cases hj : j = k
        · simp [hj, hk, he]
        · simp [hj]
      · rw [hcycs]
        by_cases hj : j = k
        · simp [hj, hk, he]
        · simp [hj]
      · rw [hmgmt, List.filter_cons_of_neg (by simp [he])]
    | some e =>
      rw [he] at hone
      dsimp only at hone
      have hek : e.slot = k := entryOf_slot (swapEntry_eq_some.mp he).2.1
      have hother : ∀ j, j ≠ k → (enterRunning e s).slot j = s.slot j ∧ (enterRunning e s).cyc j = s.cyc j := fun j hj => by
        rw [enterRunning_slot, enterRunning_cyc, hek, if_neg hj, if_neg hj]
        exact ⟨rfl, rfl⟩
      rw [hone] at hslots hcycs hmgmt ⊢
      refine ⟨fun j => ?_, fun j => ?_, ?_⟩
      · rw [hslots]
        by_cases hj : j = k
        · rw [if_neg (by rw [hj]; simp [hk]), if_pos (by rw [hj]; simp [he]), enterRunning_slot, hek, if_pos hj, hj]
        · rw [swapEntry_congr (hother j hj).1, (hother j hj).1]
          simp [hj]
      · rw [hcycs]
        by_cases hj : j = k
        · rw [if_neg (by rw [hj]; exact hk), if_pos (by rw [hj]; exact List.mem_cons_self), enterRunning_cyc, hek,
            if_pos hj, hj, he]
          rfl
        · rw [swapEntry_congr (hother j hj).1, (hother j hj).2]
          simp [hj]
      · have hfilter : ks.filter (fun j => (swapEntry m (enterRunning e s) j).isSome)
            = ks.filter fun j => (swapEntry m s j).isSome := List.filter_congr fun j hj => by
          rw [swapEntry_congr (hother j fun h => hk (h ▸ hj)).1]
        rw [hmgmt, hfilter, List.filter_cons_of_pos (by simp [he]), List.foldl_cons, enterRunning_mgmt, hek]
        refine List.foldl_ext _ _ _ fun u j hj => ?_
        rw [(hother j fun h => hk (h ▸ (List.mem_filter.mp hj).1)).1]

section
variable {s : State} {m : ImageMap}

theorem swapMaps_of_offered (h : s.maps.offered = some m) : swapMaps s = postNotice (.mapTaken m.generation)
    (eachSlot allSlots reportSwapped (s.modMaps fun b => { b with active := m, offered := none })) := by
  simp only [swapMaps, h]

theorem swapMaps_slot_eq (h : s.maps.offered = some m) (j : Slot) : (swapMaps s).slot j =
    if (swapEntry m s j).isSome = true then { s.slot j with state := .running, cleanRun := 0 } else s.slot j := by
  obtain ⟨hslots, -, -⟩ := eachSlot_reportSwapped (m := m) allSlots allSlots_nodup
    (s.modMaps fun b => { b with active := m, offered := none }) rfl
  have hj := hslots j
  rw [swapEntry_congr (State.modMaps_slot ..), State.modMaps_slot] at hj
  rw [swapMaps_of_offered h, slot_of_slots (postNotice_slots _ _), hj]
  simp [mem_allSlots]

theorem swapMaps_cyc_eq (h : s.maps.offered = some m) (j : Slot) :
    (swapMaps s).cyc j = ((swapEntry m s j).map freshBuffers).getD (s.cyc j) := by
  obtain ⟨-, hcycs, -⟩ := eachSlot_reportSwapped (m := m) allSlots allSlots_nodup
    (s.modMaps fun b => { b with active := m, offered := none }) rfl
  have hj := hcycs j
  rw [swapEntry_congr (State.modMaps_slot ..), State.modMaps_cyc, if_pos (mem_allSlots j)] at hj
  rw [swapMaps_of_offered h, State.cyc, postNotice_cycle]
  exact hj

theorem swapMaps_mgmt (h : s.maps.offered = some m) : (swapMaps s).mgmt = posted (.mapTaken m.generation)
    ((allSlots.filter fun k => (swapEntry m s k).isSome).foldl
      (fun u k => posted (.slot k .running (s.slot k).epoch none false) u) s.mgmt) := by
  obtain ⟨-, -, hmgmt⟩ := eachSlot_reportSwapped (m := m) allSlots allSlots_nodup
    (s.modMaps fun b => { b with active := m, offered := none }) rfl
  rw [swapMaps_of_offered h, postNotice_mgmt, hmgmt]
  rfl

theorem swapMaps_maps (h : s.maps.offered = some m) : (swapMaps s).maps = { s.maps with active := m, offered := none } := by
  rw [swapMaps_of_offered h, postNotice_maps, eachSlot_same State.maps _ reportSwapped_maps]
  rfl

theorem reportSwapped_cycle (k : Slot) (u : State) :
    { (reportSwapped k u).cycle with slots := u.cycle.slots } = u.cycle := by
  rw [reportSwapped_eq]
  split <;> rfl

/-- A swap leaves the Cycle Engine but for the slots' buffers. -/
theorem swapMaps_cycle (s : State) : { (swapMaps s).cycle with slots := s.cycle.slots } = s.cycle := by
  have hrest : ∀ u : State, ∀ v : Vector CycleSlot 16,
      { (eachSlot allSlots reportSwapped u).cycle with slots := v } = { u.cycle with slots := v } := fun u v => by
    refine eachSlot_same (fun w : State => ({ w.cycle with slots := v } : CycleEngine)) allSlots (fun k w => ?_) u
    rw [reportSwapped_eq]
    split <;> rfl
  unfold swapMaps
  split
  · rw [postNotice_cycle]
    exact (hrest _ _).trans rfl
  · rfl

theorem swapMaps_matcher (s : State) : (swapMaps s).matcher = s.matcher := by
  have hswap : ∀ k u, (reportSwapped k u).matcher = u.matcher := by
    intro k u
    rw [reportSwapped_eq]
    split <;> rfl
  unfold swapMaps
  split
  · rw [postNotice_matcher, eachSlot_same State.matcher _ hswap]; rfl
  · rfl

/-- The frame holder given up. -/
def holderFreed (s : State) : State := s.modCycle fun c => { c with holder := none }

theorem reportSwapped_holderFreed (k : Slot) (s : State) :
    reportSwapped k (holderFreed s) = holderFreed (reportSwapped k s) := by
  have hentry : swapEntry (holderFreed s).maps.active (holderFreed s) k = swapEntry s.maps.active s k := rfl
  rw [reportSwapped_eq, reportSwapped_eq, hentry]
  split <;> rfl

theorem eachSlot_reportSwapped_holderFreed (ks : List Slot) (s : State) :
    eachSlot ks reportSwapped (holderFreed s) = holderFreed (eachSlot ks reportSwapped s) := by
  induction ks generalizing s with
  | nil => rfl
  | cons k ks ih =>
    show eachSlot ks reportSwapped (reportSwapped k (holderFreed s)) = _
    rw [reportSwapped_holderFreed, ih]
    rfl

theorem swapMaps_holderFreed (s : State) : swapMaps (holderFreed s) = holderFreed (swapMaps s) := by
  cases h : s.maps.offered with
  | none =>
    have hnone : ∀ u : State, u.maps.offered = none → swapMaps u = u := fun u hu => by simp only [swapMaps, hu]
    rw [hnone s h, hnone (holderFreed s) h]
  | some m =>
    have hfreed : ∀ b (u : State), postNotice b (holderFreed u) = holderFreed (postNotice b u) := fun _ _ => rfl
    rw [swapMaps_of_offered h, swapMaps_of_offered (s := holderFreed s) h, ← hfreed, ← eachSlot_reportSwapped_holderFreed]
    rfl

end

/-- A held frame is served once the backplane is idle (R151). -/
theorem execFrameServiceStart_of_idle {s : State} {f : HeldFrame} (hf : s.cycle.holder = some f)
    (hb : backplaneIdle s = true) : exec .frameServiceStart s = .next (serveFrame f (holderFreed s)) := by
  show execFrameServiceStart s = _
  simp only [execFrameServiceStart, hf, hb, if_true]
  rfl

/-- Settles O35: the swap enters RUNNING slot by slot, and serving the frame goes on as for class ACTIVE. -/
theorem swapPutsSlotsInService : Obligations.SwapPutsSlotsInService := by
  intro s f m hholder hclass hidle hoffered entering
  have hentering : entering = allSlots.filter fun k => (swapEntry m s k).isSome := by
    refine List.filter_congr fun k _ => ?_
    rw [Bool.eq_iff_iff, Option.isSome_iff_exists]
    simp only [Bool.and_eq_true, beq_iff_eq, Option.any_eq_true, swapEntry_eq_some]
    exact ⟨fun ⟨hx, e, he, hep⟩ => ⟨e, hx, he, hep⟩, fun ⟨e, hx, he, hep⟩ => ⟨hx, e, he, hep⟩⟩
  refine ⟨swapMaps s, ?_, swapMaps_maps hoffered, fun k e hx he hep => ?_, fun k hk => ?_, ?_, swapMaps_cycle s, ?_,
    swapMaps_presence s, ?_, ?_, swapMaps_power s, ?_⟩
  · let u : State := { swapMaps s with
      cycle := { (swapMaps s).cycle with holder := some { f with frameClass := .active } } }
    have hidle' : backplaneIdle u = true := by
      have hcycle := congrArg CycleEngine.exchange (swapMaps_cycle s)
      have hservice : u.service = s.service := congrArg (·.2) (swapMaps_tasks s)
      have hexchange : u.cycle.exchange = s.cycle.exchange := hcycle
      unfold backplaneIdle at hidle ⊢
      rwa [hservice, hexchange]
    rw [execFrameServiceStart_of_idle hholder hidle, execFrameServiceStart_of_idle (s := u) rfl hidle']
    have hfreed : holderFreed u = holderFreed (swapMaps s) := rfl
    have hserved : serveFrame f (holderFreed s) = serveFrame { f with frameClass := .active } (swapMaps (holderFreed s)) := by
      unfold serveFrame
      rw [hclass]
    rw [hserved, swapMaps_holderFreed, hfreed]
  · have hsome : swapEntry m s k = some e := swapEntry_eq_some.mpr ⟨hx, he, hep⟩
    rw [swapMaps_slot_eq hoffered, swapMaps_cyc_eq hoffered, hsome]
    exact ⟨rfl, rfl⟩
  · have hnone : swapEntry m s k = none := by
      rw [Option.eq_none_iff_forall_ne_some]
      intro e h
      obtain ⟨hx, he, hep⟩ := swapEntry_eq_some.mp h
      exact hk hx e he hep
    rw [swapMaps_slot_eq hoffered, swapMaps_cyc_eq hoffered, hnone]
    exact ⟨rfl, rfl⟩
  · rw [swapMaps_mgmt hoffered, foldl_posted, hentering]
    rfl
  · exact pending_of_fixtures (fixtures_swapMaps s)
  · exact swapMaps_matcher s
  · exact library_of_fixtures (fixtures_swapMaps s)
  · exact congrArg (·.2) (swapMaps_tasks s)

end Sys2Proof.Machine
end

section
/-!
PROOF. The maps and the map lists against the slot states (R129 to R139): each operation keeps the places of the slots it
is about, and so does every step.
-/
namespace Sys2Proof.Machine

/-! ## One slot -/

/-- The states in which a slot has no place in the maps or the map lists. -/
def SlotState.mapless (x : SlotState) : Bool := x != .mapWait && x != .mapPending && x != .running

/-- The maps and the map lists for one slot whose state and epoch are given. -/
def MapFor (b : MapBuilder) (k : Slot) (x : SlotState) (e : Epoch) : Prop :=
  (x = .running → ∃ y, entryOf b.active.entries k = some y ∧ y.epoch = e
      ∧ ∀ m, b.offered = some m → entryOf m.entries k = some y)
    ∧ (x = .mapPending → ∃ m, b.offered = some m ∧ ∃ y, entryOf m.entries k = some y ∧ y.epoch = e)
    ∧ b.changes.count (.add k) + b.waitList.count k = (if x = .mapWait then 1 else 0)
    ∧ b.changes.count (.drop k) ≤ 1
    ∧ (.drop k ∈ b.changes → x ≠ .running ∧ x ≠ .mapPending)

theorem mapSlotsSound_iff (s : State) :
    MapSlotsSound s ↔ ∀ k, MapFor s.maps k (s.slot k).state (s.slot k).epoch := Iff.rfl

theorem SlotState.mapless_iff (x : SlotState) : x.mapless = true ↔ x ≠ .mapWait ∧ x ≠ .mapPending ∧ x ≠ .running := by
  cases x <;> decide

/-- A slot without a place stands wherever no list holds it but for one DROP. -/
theorem mapFor_mapless {b : MapBuilder} {k : Slot} {x : SlotState} {e : Epoch} (h : x.mapless = true) :
    MapFor b k x e ↔ b.changes.count (.add k) + b.waitList.count k = 0 ∧ b.changes.count (.drop k) ≤ 1 := by
  obtain ⟨hwait, hpending, hrunning⟩ := (SlotState.mapless_iff x).mp h
  unfold MapFor
  rw [if_neg hwait]
  exact ⟨fun ⟨_, _, hcount, hdrop, _⟩ => ⟨hcount, hdrop⟩, fun ⟨hcount, hdrop⟩ =>
    ⟨fun hx => absurd hx hrunning, fun hx => absurd hx hpending, hcount, hdrop, fun _ => ⟨hrunning, hpending⟩⟩⟩

/-- Two slot records with the same place in the maps: the same state and epoch, or no place in either. -/
def SameMap (r r' : SlotRecord) : Prop :=
  (r'.state = r.state ∧ r'.epoch = r.epoch) ∨ (r.state.mapless = true ∧ r'.state.mapless = true)

theorem SameMap.of_eq {r r' : SlotRecord} (h : r' = r) : SameMap r r' := by
  rw [h]
  exact .inl ⟨rfl, rfl⟩

section
variable {s t : State}

theorem MapFor.congr {b : MapBuilder} {k : Slot} {r r' : SlotRecord} (h : MapFor b k r.state r.epoch)
    (hr : SameMap r r') : MapFor b k r'.state r'.epoch := by
  obtain ⟨hx, he⟩ | ⟨hx, hx'⟩ := hr
  · rwa [hx, he]
  · exact (mapFor_mapless hx').mpr ((mapFor_mapless hx).mp h)

theorem MapSlotsSound.congr (h : MapSlotsSound s) (hm : t.maps = s.maps)
    (hslots : ∀ k, SameMap (s.slot k) (t.slot k)) : MapSlotsSound t := by
  rw [mapSlotsSound_iff] at h ⊢
  intro k
  rw [hm]
  exact (h k).congr (hslots k)

theorem MapSlotsSound.of_slots (h : MapSlotsSound s) (hm : t.maps = s.maps) (hs : t.slots = s.slots) :
    MapSlotsSound t := h.congr hm fun k => .of_eq (slot_of_slots hs k)

theorem PowerMove.sameMap {j : Slot} (hp : PowerSound s) (h : PowerMove s t j) : SameMap (s.slot j) (t.slot j) := by
  obtain hs | ⟨hw, x, hx, hs⟩ | ⟨hq, hs⟩ := h
  · exact .of_eq hs
  · rw [hs]
    refine .inr ⟨by rw [hp.waitState hw]; rfl, ?_⟩
    obtain rfl | rfl := hx <;> rfl
  · rw [hs]
    exact .inr ⟨by rw [hp.queueState hq]; rfl, rfl⟩

/-! ## Withdrawal -/

/-- What a withdrawal makes of the map lists (R130). -/
theorem withdraw_mapFor {k : Slot} (h : MapSlotsSound s) {r : Slot → SlotRecord} (hx : (r k).state.mapless = true)
    (hothers : ∀ j, j ≠ k → SameMap (s.slot j) (r j)) (j : Slot) :
    MapFor (withdraw k s).maps j (r j).state (r j).epoch := by
  have hdrops : ∀ j, (if wantsDrop s.maps k then [Change.drop k] else []).count (.add j) = 0 := fun j => by
    split <;> simp
  by_cases hj : j = k
  · subst hj
    obtain ⟨-, -, -, hdrop, -⟩ := (mapSlotsSound_iff s).mp h j
    refine (mapFor_mapless hx).mpr ?_
    rw [withdraw_maps]
    dsimp only
    refine ⟨?_, ?_⟩
    · rw [List.count_append, hdrops, List.count_eq_zero.mpr (by simp), List.count_eq_zero.mpr (by simp)]
    · rw [List.count_append, List.count_filter (by simp)]
      split
      · rename_i hwants
        have hnot : Change.drop j ∉ s.maps.changes := by
          unfold wantsDrop at hwants
          simp only [Bool.and_eq_true, Bool.not_eq_true', List.contains_eq_mem, decide_eq_false_iff_not] at hwants
          exact hwants.2
        rw [List.count_eq_zero.mpr hnot]
        simp
      · simpa using hdrop
  · refine MapFor.congr (r := s.slot j) ?_ (hothers j hj)
    obtain ⟨hrunning, hpending, hcount, hdrop, hdropped⟩ := (mapSlotsSound_iff s).mp h j
    rw [withdraw_maps]
    have hcountDrop : (if wantsDrop s.maps k then [Change.drop k] else []).count (.drop j) = 0 := by
      split <;> simp [Ne.symm hj]
    refine ⟨hrunning, hpending, ?_, ?_, ?_⟩
    · dsimp only
      rw [List.count_append, hdrops, List.count_filter (by simp [hj]), List.count_filter (by simp [hj])]
      exact hcount
    · dsimp only
      rw [List.count_append, hcountDrop, List.count_filter (by simp)]
      exact hdrop
    · intro hmem
      refine hdropped ?_
      obtain hmem | hmem := List.mem_append.mp hmem
      · exact List.mem_of_mem_filter hmem
      · split at hmem
        · simp [hj] at hmem
        · cases hmem

theorem withdraw_mapSlotsSound {k : Slot} (h : MapSlotsSound s) (hm : t.maps = (withdraw k s).maps)
    (hx : (t.slot k).state.mapless = true) (hothers : ∀ j, j ≠ k → SameMap (s.slot j) (t.slot j)) : MapSlotsSound t := by
  rw [mapSlotsSound_iff, hm]
  exact withdraw_mapFor h (r := t.slot) hx hothers

theorem faultEntry_mapSlotsSound {k : Slot} (hp : PowerSound s) (h : MapSlotsSound s) (reason : FaultReason)
    (code : Option Byte) : MapSlotsSound (faultEntry k reason code s) := by
  refine withdraw_mapSlotsSound (k := k) h rfl ?_ fun j hj => PowerMove.sameMap hp (faultEntry_slot_of_ne hj reason code)
  rw [faultEntry_slot_same]
  dsimp only [faultedRecord]
  split <;> rfl

theorem reportFault_mapSlotsSound {k : Slot} (hp : PowerSound s) (h : MapSlotsSound s) (e : Epoch) (reason : FaultReason)
    (code : Option Byte) : MapSlotsSound (reportFault k e reason code s) := by
  obtain ⟨-, -, hs⟩ | ⟨-, hs⟩ := reportFault_cases s k e reason code <;> rw [hs]
  · exact faultEntry_mapSlotsSound hp h reason code
  · exact h

theorem cardGone_mapSlotsSound (hp : PowerSound s) (k : Slot) (h : MapSlotsSound s) :
    MapSlotsSound (cardGone k s) := by
  have hmoves : ∀ j, j ≠ k → SameMap (s.slot j) ((cardGone k s).slot j) := fun j hj =>
    PowerMove.sameMap hp (cardGone_slot_of_ne hj)
  have hmapless : ((cardGone k s).slot k).state.mapless = true := by
    cases htakes : (s.slot k).state.takesCardGone with
    | true =>
      rw [cardGone_slot_same k htakes]
      split
      · rename_i hq; dsimp only; rw [hq]; rfl
      · rfl
    | false =>
      rw [cardGone_slot_off k htakes]
      revert htakes
      dsimp only
      cases (s.slot k).state <;> decide
  have hmaps : (cardGone k s).maps = (withdraw k s).maps := by
    have hempty : (emptySlot k s).maps = s.maps := by unfold emptySlot; split <;> rfl
    rw [withdraw_maps, cardGone]
    split
    · rw [withdraw_maps, hempty]
    · rw [withdraw_maps]
  exact withdraw_mapSlotsSound h hmaps hmapless hmoves

/-! ## The sequencer's other moves -/

theorem admissionGate_mapSlotsSound (k : Slot) (h : MapSlotsSound s) : MapSlotsSound (admissionGate k s) := by
  refine h.congr ?_ fun j => ?_
  · obtain ⟨-, -, -, hs⟩ | ⟨-, hs⟩ := admissionGate_cases s k <;> rw [hs]
    rfl
  · obtain hs | ⟨-, hx, -, hs⟩ := admissionGate_slot (s := s) j k <;> rw [hs]
    · exact .of_eq rfl
    · exact .inr ⟨by rw [hx]; rfl, rfl⟩

theorem lineAsserted_maps (k : Slot) (u : State) : (lineAsserted k u).maps = u.maps := by
  unfold lineAsserted
  split
  · dsimp only; split <;> rfl
  all_goals rfl

theorem lineDeasserted_maps (k : Slot) (u : State) : (lineDeasserted k u).maps = u.maps := by
  unfold lineDeasserted
  split
  · dsimp only; split <;> rfl
  all_goals rfl

theorem lineAsserted_mapSlotsSound (k : Slot) (h : MapSlotsSound s) : MapSlotsSound (lineAsserted k s) := by
  refine h.congr (lineAsserted_maps k s) fun j => ?_
  obtain hs | ⟨-, -, hx, hs⟩ := lineAsserted_slot (s := s) j k <;> rw [hs]
  · exact .of_eq rfl
  · exact .inr ⟨by rw [hx]; rfl, rfl⟩

theorem cardArrived_mapSlotsSound (k : Slot) (e : Epoch) (h : MapSlotsSound s) : MapSlotsSound (cardArrived k e s) := by
  refine h.congr ?_ fun j => ?_
  · unfold cardArrived
    split
    · dsimp only
      split
      · obtain ⟨-, -, -, hs⟩ | ⟨-, hs⟩ := admissionGate_cases (enterState k .present _) k <;> rw [hs] <;> rfl
      · rfl
    · rfl
  · obtain hs | ⟨-, -, ⟨hx, hs⟩ | ⟨hx, x, hxs, hs⟩⟩ := cardArrived_slot (s := s) j k e <;> rw [hs]
    · exact .of_eq rfl
    · exact .inr ⟨by rw [hx]; rfl, by dsimp only; rw [hx]; rfl⟩
    · refine .inr ⟨by rw [hx]; rfl, ?_⟩
      obtain rfl | rfl := hxs <;> rfl

theorem startRamp_mapSlotsSound (hq : ∀ j ∈ s.power.rampQueue, (s.slot j).state = .rampQueued) (h : MapSlotsSound s) :
    MapSlotsSound (startRamp s) := by
  refine h.congr (startRamp_maps s) fun j => ?_
  obtain hs | ⟨hj, hs⟩ := startRamp_slot (s := s) j <;> rw [hs]
  · exact .of_eq rfl
  · exact .inr ⟨by rw [hq j hj]; rfl, rfl⟩

theorem identityTaken_mapSlotsSound (k : Slot) (c : IdentityRecord) (h : MapSlotsSound s) :
    MapSlotsSound (identityTaken k c s) := h.congr rfl fun j => by
  rw [identityTaken_slot]
  split
  · rename_i hj; rw [hj]; exact .inl ⟨rfl, rfl⟩
  · exact .of_eq rfl

/-- A claim asked for moves its slot from IDENTIFYING to a state without a place in the maps. -/
theorem requestClaim_mapSlotsSound {k : Slot} (hp : PowerSound s) (h : MapSlotsSound s)
    (hx : (s.slot k).state = .identifying) : MapSlotsSound (requestClaim k s) := by
  unfold requestClaim
  split
  · refine startRamp_mapSlotsSound (fun j hj => ?_) (h.congr rfl fun j => ?_)
    · rw [grantClaim_slot]
      split
      · rfl
      · rename_i hjk
        have hj : j ∈ s.power.rampQueue ++ [k] := hj
        exact hp.queueState (by simpa [hjk] using hj)
    · rw [grantClaim_slot]
      split
      · rename_i hj; rw [hj]; exact .inr ⟨by rw [hx]; rfl, rfl⟩
      · exact .of_eq rfl
  · refine h.congr rfl fun j => ?_
    by_cases hj : j = k
    · rw [hj, parkClaim, enterState_slot_same]; exact .inr ⟨by rw [hx]; rfl, rfl⟩
    · refine .of_eq ?_
      rw [parkClaim, enterState_slot_of_ne _ hj, State.modSlot_slot_of_ne _ hj, State.modPower_slot]

theorem profileMatched_mapSlotsSound (k : Slot) (c : IdentityRecord) (p : ProfileIndex) (h : MapSlotsSound s) :
    MapSlotsSound (profileMatched k c p s) := h.congr rfl fun j => by
  rw [profileMatched_slot]
  split
  · rename_i hj; rw [hj]; exact .inl ⟨rfl, rfl⟩
  · exact .of_eq rfl

theorem IdentEnd.keeps_mapSlotsSound {x : Transaction} {o : SegmentOutcome} (hp : PowerSound s) (h : MapSlotsSound s)
    (hend : IdentEnd x o s t) : MapSlotsSound t := by
  cases hend with
  | discarded => exact h
  | retried => exact h.of_slots rfl rfl
  | timedOut =>
    exact reportFault_mapSlotsSound (s := s.setAttempt x.slot none) (powerSound_of_slots hp rfl rfl)
      (h.of_slots rfl rfl) _ _ _
  | faulted =>
    exact reportFault_mapSlotsSound (identityTaken_powerSound hp _ _) (identityTaken_mapSlotsSound _ _ h) _ _ _
  | matched a _ _ c _ _ p _ _ hx _ =>
    refine requestClaim_mapSlotsSound (profileMatched_powerSound hp _ c p) (profileMatched_mapSlotsSound _ c p h) ?_
    rw [profileMatched_slot, if_pos rfl]
    exact hx
  | stale => exact identityTaken_mapSlotsSound _ _ h

/-- A slot whose download is complete waits for a map, with its ADD at the tail of the Change List (R129). -/
theorem downloadComplete_mapSlotsSound {k : Slot} (h : MapSlotsSound s) (hx : (s.slot k).state = .configuring) :
    MapSlotsSound ((enterState k .mapWait s).modMaps fun b => { b with changes := b.changes ++ [.add k] }) := by
  rw [mapSlotsSound_iff] at h ⊢
  intro j
  rw [State.modMaps_slot, State.modMaps_maps, enterState_maps, enterState_slot]
  by_cases hj : j = k
  · subst hj
    obtain ⟨hcount, hdrop⟩ := (mapFor_mapless (by rw [hx]; rfl)).mp (h j)
    rw [if_pos rfl]
    refine ⟨fun hr => ?_, fun hr => ?_, ?_, ?_, fun _ => ⟨?_, ?_⟩⟩
    · cases hr
    · cases hr
    · dsimp only
      rw [List.count_append, List.count_singleton_self, if_pos rfl]
      omega
    · simpa using hdrop
    · simp
    · simp
  · rw [if_neg hj]
    obtain ⟨hrunning, hpending, hcount, hdrop, hdropped⟩ := h j
    refine ⟨hrunning, hpending, ?_, ?_, fun hmem => hdropped ?_⟩
    · have hadd : [Change.add k].count (.add j) = 0 := by simp [Ne.symm hj]
      dsimp only
      rw [List.count_append, hadd]
      exact hcount
    · simpa using hdrop
    · simpa using hmem

theorem DownloadEnd.keeps_mapSlotsSound {x : Transaction} {c : Completion} (hp : PowerSound s) (h : MapSlotsSound s)
    (hend : DownloadEnd x c s t) : MapSlotsSound t := by
  have hdown : MapSlotsSound (s.setDownload x.slot none) := h.of_slots rfl rfl
  cases hend with
  | discarded => exact h
  | wentOn => exact h.of_slots rfl rfl
  | complete d _ _ _ _ _ hx _ => exact downloadComplete_mapSlotsSound hdown hx
  | stale => exact hdown
  | failed => exact reportFault_mapSlotsSound (s := s.setDownload x.slot none) (powerSound_of_slots hp rfl rfl) hdown _ _ _

theorem completeTransaction_mapSlotsSound (hp : PowerSound s) (h : MapSlotsSound s) (x : Transaction) (c : Completion) :
    MapSlotsSound (completeTransaction x c s) := by
  cases hx : x.origin with
  | sequencer =>
    rw [completeTransaction_of_sequencer c s hx]
    exact (downloadCompletion_end x c s).keeps_mapSlotsSound hp h
  | passThrough =>
    rw [completeTransaction_of_passThrough c s hx, passThroughCompletion]
    split
    · exact h.of_slots rfl rfl
    · exact h

theorem rampGood_mapSlotsSound {k : Slot} (hp : PowerSound s) (h : MapSlotsSound s) (hx : (s.slot k).state = .ramping) :
    MapSlotsSound (rampGood k s) := by
  rw [rampGood_eq]
  refine startRamp_mapSlotsSound (fun j hj => ?_) (h.congr rfl fun j => ?_)
  · have hqueued : (s.slot j).state = .rampQueued := hp.queueState hj
    rw [rampEnded_slot, if_neg, hqueued]
    rintro rfl
    rw [hx] at hqueued
    cases hqueued
  · rw [rampEnded_slot]
    split
    · rename_i hj; rw [hj]; exact .inr ⟨by rw [hx]; rfl, rfl⟩
    · exact .of_eq rfl

/-! ## Accounting -/

theorem accountSlot_mapSlotsSound (hp : PowerSound s) (h : MapSlotsSound s) (limit : Nat)
    (p : Addressed × WindowOutcome) : MapSlotsSound (accountSlot limit s p) := by
  obtain ⟨a, o⟩ := p
  have hmissed : MapSlotsSound (missCounted a.slot s) := h.congr rfl fun j => by
    rw [missCounted_slot]
    split
    · rename_i hj; rw [hj]; exact .inl ⟨rfl, rfl⟩
    · exact .of_eq rfl
  obtain hs | ⟨hrun, -, ⟨data, diag, -, hs⟩ | ⟨-, -, hs⟩ | ⟨-, -, hs⟩⟩ := accountSlot_cases (s := s) limit a o <;>
    rw [hs]
  · exact h
  · refine h.congr ?_ fun j => ?_
    · unfold takeResponse; dsimp only; split <;> rfl
    · rw [takeResponse_slot]
      split
      · rename_i hj; rw [hj]; unfold countAnswered; split <;> exact .inl ⟨rfl, rfl⟩
      · exact .of_eq rfl
  · exact hmissed
  · exact faultEntry_mapSlotsSound (missCounted_powerSound hp _) hmissed _ _

theorem accounted_mapSlotsSound (hp : PowerSound s) (h : MapSlotsSound s) (limit : Nat)
    (ps : List (Addressed × WindowOutcome)) : MapSlotsSound (ps.foldl (accountSlot limit) s) := by
  induction ps generalizing s with
  | nil => exact h
  | cons p ps ih => exact ih (accountSlot_powerSound hp limit p) (accountSlot_mapSlotsSound hp h limit p)

/-! ## Builds and swaps -/

theorem entryOf_keptEntries {b : MapBuilder} {k : Slot} (h : Change.drop k ∉ b.changes) :
    entryOf (keptEntries b) k = entryOf b.active.entries k :=
  entryOf_filter fun e _ he => by simpa [he] using h

/-- The entries that tries end with: those given, with the entry of each slot placed put in its place. -/
theorem entryOf_buildTries {s : State} (ks : List Slot) (hks : ks.Nodup) (es : List MapEntry) (k : Slot) :
    (k ∉ placedIn (buildTries s es ks).2 → entryOf (buildTries s es ks).1 k = entryOf es k)
      ∧ ∀ e, (k, Placement.placed e) ∈ (buildTries s es ks).2 →
        entryOf (buildTries s es ks).1 k = some e ∧ e.epoch = (s.slot k).epoch := by
  induction ks generalizing es with
  | nil => exact ⟨fun _ => rfl, fun e he => by cases he⟩
  | cons j ks ih =>
    obtain ⟨hj, hrest⟩ := List.nodup_cons.mp hks
    rw [buildTries_cons]
    cases htry : tryPlace s es j with
    | placed e =>
      obtain ⟨heslot, hepoch, -⟩ := tryPlace_placed htry
      obtain ⟨hkept, hnew⟩ := ih hrest (insertEntry e es)
      have hnot : j ∉ placedIn (buildTries s (insertEntry e es) ks).2 := fun hmem => by
        obtain ⟨e', he'⟩ := mem_placedIn.mp hmem
        have hmapped := List.mem_map_of_mem (f := (·.1)) he'
        rw [buildTries_slots] at hmapped
        exact hj hmapped
      refine ⟨fun hk => ?_, fun e' he' => ?_⟩
      · rw [placedIn_placed, List.mem_cons, not_or] at hk
        rw [hkept hk.2, entryOf_insertEntry, heslot, if_neg hk.1]
      · obtain heq | he' := List.mem_cons.mp he'
        · cases heq
          rw [hkept hnot, entryOf_insertEntry, heslot, if_pos rfl]
          exact ⟨rfl, hepoch⟩
        · exact hnew e' he'
    | parked reason =>
      obtain ⟨hkept, hnew⟩ := ih hrest es
      refine ⟨fun hk => hkept hk, fun e' he' => ?_⟩
      obtain heq | he' := List.mem_cons.mp he'
      · cases heq
      · exact hnew e' he'

theorem runBuild_mapSlotsSound (h : MapSlotsSound s) (hdue : buildDue s.maps = true) : MapSlotsSound (runBuild s) := by
  obtain ⟨hnodup, hwait⟩ := h.tried
  have hoffered := buildDue_offered hdue
  have hslot : ∀ k, (runBuild s).slot k = (buildReported s).slot k := fun k => by
    obtain ⟨-, -, h⟩ | ⟨-, h⟩ := runBuild_cases hnodup <;> rw [h]
    rfl
  have hmaps : (runBuild s).maps.active = s.maps.active ∧ (runBuild s).maps.changes = []
      ∧ (runBuild s).maps.waitList = (triedSlots s).filter (fun k => !(placedIn (dueTries s).2).contains k)
      ∧ (∀ m, (runBuild s).maps.offered = some m → m.entries = (dueTries s).1)
      ∧ ((runBuild s).maps.offered = none → placedIn (dueTries s).2 = []) := by
    obtain ⟨-, hp, h⟩ | ⟨-, h⟩ := runBuild_cases hnodup <;> rw [h]
    · rw [buildReported_maps]
      exact ⟨rfl, rfl, rfl, fun m hm => (Option.some_ne_none m (hm.symm.trans hoffered)).elim, fun _ => hp⟩
    · rw [postNotice_maps, State.modMaps_maps, buildReported_maps]
      exact ⟨rfl, rfl, rfl, fun m hm => by cases hm; rfl, fun hm => by cases hm⟩
  obtain ⟨hactive, hchanges, hlist, hentries, hnone⟩ := hmaps
  rw [mapSlotsSound_iff]
  intro k
  obtain ⟨hrunning, hpending, hcount, -, hdropped⟩ := (mapSlotsSound_iff s).mp h k
  obtain ⟨hkept, hplaced⟩ := entryOf_buildTries (s := s) (triedSlots s) hnodup (keptEntries s.maps) k
  rw [hslot]
  unfold MapFor
  rw [hactive, hchanges, hlist]
  by_cases htried : k ∈ triedSlots s
  · have hslots := dueTries_slots s
    obtain ⟨x, hx, rfl⟩ := List.mem_map.mp (hslots ▸ htried)
    have hmapWait := hwait x.1 htried
    have hrecord := buildReported_slot_of_mem h hx
    rw [hrecord]
    obtain ⟨k, e | reason⟩ := x
    · have hin : k ∈ placedIn (dueTries s).2 := mem_placedIn.mpr ⟨e, hx⟩
      obtain ⟨hentry, hepoch⟩ := hplaced e hx
      refine ⟨fun hr => (by cases hr), fun _ => ?_, ?_, Nat.zero_le _, fun hmem => by cases hmem⟩
      · cases hm : (runBuild s).maps.offered with
        | none => rw [hnone hm] at hin; cases hin
        | some m => exact ⟨m, rfl, e, by rw [hentries m hm]; exact hentry, hepoch⟩
      · rw [List.count_eq_zero.mpr (by simp), List.count_eq_zero.mpr (by simp [hin])]
        rfl
    · have hout : k ∉ placedIn (dueTries s).2 := fun hin => by
        obtain ⟨e, he⟩ := mem_placedIn.mp hin
        have hsame := buildReported_slot_of_mem h he
        rw [hrecord] at hsame
        have hstate := congrArg SlotRecord.state hsame
        rw [show (triedRecord (s.slot k) (.parked reason)).state = (s.slot k).state from rfl, hmapWait] at hstate
        cases hstate
      refine ⟨fun hr => ?_, fun hr => ?_, ?_, Nat.zero_le _, fun hmem => by cases hmem⟩
      · have hr : (s.slot k).state = .running := hr
        rw [hmapWait] at hr; cases hr
      · have hr : (s.slot k).state = .mapPending := hr
        rw [hmapWait] at hr; cases hr
      · rw [show (triedRecord (s.slot k) (.parked reason)).state = (s.slot k).state from rfl, if_pos hmapWait,
          List.count_filter (by simp [hout]), List.count_eq_one_of_mem hnodup htried]
        rfl
  · rw [buildReported_slot_of_not_mem htried]
    have hout : k ∉ placedIn (dueTries s).2 := fun hin => by
      obtain ⟨e, he⟩ := mem_placedIn.mp hin
      have hmapped := List.mem_map_of_mem (f := (·.1)) he
      rw [dueTries_slots] at hmapped
      exact htried hmapped
    have hzero : s.maps.changes.count (.add k) + s.maps.waitList.count k = 0 := by
      rw [← count_addedSlots, Nat.add_comm, ← List.count_append, ← triedSlots_eq, List.count_eq_zero]
      exact htried
    rw [hzero] at hcount
    refine ⟨fun hr => ?_, fun hr => ?_, ?_, Nat.zero_le _, fun hmem => by cases hmem⟩
    · obtain ⟨e, he, hepoch, -⟩ := hrunning hr
      refine ⟨e, he, hepoch, fun m hm => ?_⟩
      rw [hentries m hm]
      exact (hkept hout).trans ((entryOf_keptEntries fun hdrop => (hdropped hdrop).1 hr).trans he)
    · obtain ⟨m, hm, -⟩ := hpending hr
      rw [hoffered] at hm; cases hm
    · rw [← hcount, List.count_eq_zero.mpr fun hmem => htried (List.mem_of_mem_filter hmem)]
      rfl

theorem swapMaps_mapSlotsSound (h : MapSlotsSound s) : MapSlotsSound (swapMaps s) := by
  cases hoffered : s.maps.offered with
  | none =>
    have hs : swapMaps s = s := by simp only [swapMaps, hoffered]
    rwa [hs]
  | some m =>
    rw [mapSlotsSound_iff]
    intro k
    obtain ⟨hrunning, hpending, hcount, hdrop, hdropped⟩ := (mapSlotsSound_iff s).mp h k
    rw [swapMaps_slot_eq hoffered, swapMaps_maps hoffered]
    cases hentry : swapEntry m s k with
    | some e =>
      obtain ⟨hx, he, hepoch⟩ := swapEntry_eq_some.mp hentry
      rw [hx] at hcount
      refine ⟨fun _ => ⟨e, he, hepoch, fun m' hm' => (by cases hm')⟩, fun hr => (by cases hr), hcount, hdrop, fun hmem => ?_⟩
      exact absurd hx (hdropped hmem).2
    | none =>
      refine ⟨fun hr => ?_, fun hr => ?_, hcount, hdrop, hdropped⟩
      · obtain ⟨e, -, hepoch, hsame⟩ := hrunning hr
        exact ⟨e, hsame m hoffered, hepoch, fun m' hm' => by cases hm'⟩
      · obtain ⟨m', hm', e, he, hepoch⟩ := hpending hr
        rw [hoffered] at hm'
        cases hm'
        rw [swapEntry_eq_some.mpr ⟨hr, he, hepoch⟩] at hentry
        cases hentry

theorem serveFrame_maps (f : HeldFrame) (u : State) :
    (serveFrame f u).maps = if f.frameClass = .offered then (swapMaps u).maps else u.maps := by
  unfold serveFrame
  dsimp only [startExchange, State.modCycle_maps]
  rw [foldl_same _ State.maps (fun s e => copyOutput f.output e s)]
  · cases f.frameClass <;> rfl
  · intro v e; unfold copyOutput; split <;> rfl

theorem serveFrame_mapSlotsSound (f : HeldFrame) (h : MapSlotsSound s) : MapSlotsSound (serveFrame f s) := by
  have hm := serveFrame_maps f s
  have hs := serveFrame_slots (s := s) f
  split at hm
  · rename_i hf
    rw [if_pos hf] at hs
    exact (swapMaps_mapSlotsSound h).of_slots hm hs
  · rename_i hf
    rw [if_neg hf] at hs
    exact h.of_slots hm hs

theorem acceptFrame_mapSlotsSound (f : HeldFrame) (g : Nat) (long : Bool) (h : MapSlotsSound s) :
    MapSlotsSound (acceptFrame f g long s) := by
  have htaken : MapSlotsSound (frameTaken f g long s) :=
    h.of_slots (frameTaken_maps f g long) (frameTaken_slots f g long)
  rw [acceptFrame_eq]
  split
  · exact serveFrame_mapSlotsSound f htaken
  · exact htaken

/-! ## The commands -/

theorem putSettings_mapSlotsSound (hp : PowerSound s) (h : MapSlotsSound s) (r : RackSettings) :
    MapSlotsSound (putSettings r s) := by
  have hset : MapSlotsSound (s.modMgmt fun m => { m with settings := r.clamped }) := h.of_slots rfl rfl
  have hbudget : MapSlotsSound (handBudget s.settings (s.modMgmt fun m => { m with settings := r.clamped })) := by
    unfold handBudget; split
    · exact hset.congr (reevaluateClaims_maps _) fun j =>
        PowerMove.sameMap (powerSound_of_slots hp rfl rfl) (reevaluateClaims_slot j)
    · exact hset
  have hadmission : MapSlotsSound (handAdmission s.settings
      (handBudget s.settings (s.modMgmt fun m => { m with settings := r.clamped }))) := by
    unfold handAdmission; split
    · exact eachSlot_keeps (P := MapSlotsSound) allSlots (fun k _ u h => admissionGate_mapSlotsSound k h) _ hbudget
    · exact hbudget
  rw [putSettings]
  unfold handTiming
  split
  · exact hadmission
  · exact hadmission

/-- With the maps as a reset leaves them, no slot has a place. -/
theorem mapSlotsSound_of_reset (hm : s.maps = MapBuilder.reset) (hx : ∀ k, (s.slot k).state.mapless = true) :
    MapSlotsSound s := by
  rw [mapSlotsSound_iff, hm]
  intro k
  exact (mapFor_mapless (hx k)).mpr ⟨rfl, Nat.zero_le _⟩

theorem restartAll_mapSlotsSound (s : State) : MapSlotsSound (restartAll s) := by
  rw [restartAll]
  refine eachSlot_keeps (P := MapSlotsSound) allSlots (fun k _ u h => admissionGate_mapSlotsSound k h) _
    (eachSlot_keeps (P := MapSlotsSound) allSlots (fun k _ u h => ?_) _ ?_)
  · unfold resumeInsertion; split
    · exact lineAsserted_mapSlotsSound k h
    · exact h
  · refine mapSlotsSound_of_reset rfl fun k => ?_
    rw [restartBlocks_slot, restartSlot]
    dsimp only
    split <;> rfl

theorem coldReset_mapSlotsSound (s : State) : MapSlotsSound (eachSlot allSlots redetect (coldState s)) := by
  refine eachSlot_keeps (P := MapSlotsSound) allSlots (fun k _ u h => ?_) _ ?_
  · unfold redetect; split
    · exact lineAsserted_mapSlotsSound k h
    · exact h
  · refine mapSlotsSound_of_reset rfl fun k => ?_
    rw [coldState_slot]; rfl

theorem Served.keeps_mapSlotsSound (hp : PowerSound s) (h : MapSlotsSound s) (hd : Served s t) : MapSlotsSound t := by
  cases hd with
  | modeSet k m =>
    have hset : MapSlotsSound (s.modSlot k fun r => { r with mode := m }) := h.congr rfl fun j => by
      rw [State.modSlot_slot]
      split
      · rename_i hj; rw [hj]; exact .inl ⟨rfl, rfl⟩
      · exact .of_eq rfl
    unfold setMode
    dsimp only
    split
    · exact h
    · split
      · exact admissionGate_mapSlotsSound k hset
      · exact hset
  | started k hx _ =>
    refine h.congr rfl fun j => ?_
    rw [enterIdentifying_slot]
    split
    · rename_i hj; rw [hj]; exact .inr ⟨by rw [hx]; rfl, rfl⟩
    · exact .of_eq rfl
  | stopped k _ =>
    refine withdraw_mapSlotsSound (k := k) h rfl ?_ fun j hj => PowerMove.sameMap hp (stopSlot_slot_of_ne hj)
    rw [stopSlot_slot_same]; rfl
  | faultedCleared k hx =>
    refine admissionGate_mapSlotsSound k (h.congr rfl fun j => ?_)
    rw [enterState_slot]
    split
    · rename_i hj; rw [hj]; exact .inr ⟨by rw [hx]; rfl, rfl⟩
    · rename_i hj; exact .of_eq (State.modSlot_slot_of_ne _ hj _)
  | quarantinedCleared k hx =>
    refine h.congr rfl fun j => ?_
    rw [clearQuarantined_slot]
    split
    · rename_i hj
      rw [hj]
      refine .inr ⟨by rw [hx]; rfl, ?_⟩
      dsimp only
      obtain hc | hc | hc := clearedState_cases k s <;> rw [hc] <;> rfl
    · exact .of_eq rfl
  | profilesPurged => rw [foldl_setProfile_frame]; exact h.of_slots rfl rfl
  | settingsPut args r _ _ => exact putSettings_mapSlotsSound hp h r
  | restarted => exact restartAll_mapSlotsSound s
  | _ => exact h.of_slots rfl rfl

theorem Effect.keeps_mapSlotsSound (hp : PowerSound s) (h : MapSlotsSound s) (hd : Effect s t) : MapSlotsSound t := by
  have hover : MapSlotsSound (segmentOver s) := h.of_slots rfl rfl
  have hpover : PowerSound (segmentOver s) := powerSound_of_slots hp rfl rfl
  cases hd with
  | served hd => exact hd.keeps_mapSlotsSound hp h
  | lineAsserted k => exact lineAsserted_mapSlotsSound k h
  | lineDeasserted k =>
    refine h.congr (lineDeasserted_maps k s) fun j => ?_
    obtain hs | ⟨-, -, hx, hs⟩ := lineDeasserted_slot (s := s) j k <;> rw [hs]
    · exact .of_eq rfl
    · exact .inr ⟨by rw [hx]; rfl, rfl⟩
  | inserted k d e _ =>
    exact cardArrived_mapSlotsSound (s := s.modPres k fun r => { r with phase := .seated, timer := .stopped }) k e
      (h.of_slots rfl rfl)
  | removed k d _ =>
    exact cardGone_mapSlotsSound
      (s := s.modPres k fun r => { r with phase := .absent, timer := .stopped, auxSupply := false })
      (powerSound_of_slots hp rfl rfl) k (h.of_slots rfl rfl)
  | identCompleted g x _ _ o => exact (identCompletion_end x o (segmentOver s)).keeps_mapSlotsSound hpover hover
  | completed g x _ _ c => exact completeTransaction_mapSlotsSound hpover hover x c
  | rampGood k _ hr => exact rampGood_mapSlotsSound hp h ((rampEndTaken_iff s k).mp hr).1
  | rampBad k _ _ =>
    unfold Machine.rampBad; split
    · exact reportFault_mapSlotsSound hp h _ _ _
    · exact h
  | rampDiscarded k ht hr => rw [rampEndTaken_of_sound s k hp ht] at hr; cases hr
  | powerLost k _ c _ =>
    exact reportFault_mapSlotsSound (s := s.modPow k fun r => { r with filter := false })
      (modPow_powerSound hp k (fun r => { r with filter := false }) (fun _ => ⟨rfl, rfl, rfl, rfl⟩) (by simp))
      (h.of_slots rfl rfl) _ _ _
  | configTimedOut k d _ =>
    exact reportFault_mapSlotsSound (s := s.setDownload k none) (powerSound_of_slots hp rfl rfl)
      (h.of_slots rfl rfl) _ _ _
  | built hdue => exact runBuild_mapSlotsSound h hdue
  | frameAccepted _ f g long _ => exact acceptFrame_mapSlotsSound f g long h
  | frameServed f _ _ =>
    exact serveFrame_mapSlotsSound (s := s.modCycle fun c => { c with holder := none }) f (h.of_slots rfl rfl)
  | accounted x _ _ _ =>
    exact accounted_mapSlotsSound (s := s.modCycle fun c => { c with exchange := none })
      (powerSound_of_slots hp rfl rfl) (h.of_slots rfl rfl) _ _
  | _ => exact h.of_slots rfl rfl

theorem Done.keeps_mapSlotsSound (hp : PowerSound s) (h : MapSlotsSound s) (hd : Done s t) : MapSlotsSound t := by
  obtain ⟨u, he, hposted⟩ := hd
  have hmaps : t.maps = u.maps := by cases hposted <;> rfl
  exact (he.keeps_mapSlotsSound hp h).of_slots hmaps hposted.slots_eq

end

/-- Settles O13: an entry and a place in the lists come and go with the slot's state; a build and a swap move all of
them at once. -/
theorem stepKeepsMapSlotsSound : Obligations.StepKeepsMapSlotsSound := fun _ _ hp hs hstep =>
  (step_keeps (P := fun s => PowerSound s ∧ MapSlotsSound s) (fun _ _ h => h)
    (fun u _ => ⟨coldReset_powerSound u, coldReset_mapSlotsSound u⟩)
    (fun _ _ h hd => ⟨hd.keeps_powerSound h.1, hd.keeps_mapSlotsSound h.1 h.2⟩) ⟨hp, hs⟩ hstep).2

end Sys2Proof.Machine
end

section
/-!
PROOF. Image placement and cycle fit (chapter 7): first fit, the four steps of a try, and the exchange length of a map
with its bounds.
-/
namespace Sys2Proof.Machine

/-! ## First fit (R114) -/

theorem overlaps_iff (a b : Region) : a.overlaps b = true ↔
    ∃ o, (a.offset ≤ o ∧ o < a.offset + a.length) ∧ (b.offset ≤ o ∧ o < b.offset + b.length) := by
  rw [Region.overlaps, decide_eq_true_iff]
  constructor
  · intro h
    exact ⟨max a.offset b.offset, by simp only [Region.stop] at h; omega⟩
  · rintro ⟨o, ha, hb⟩
    simp only [Region.stop]; omega

theorem offsetHolds_iff (rs : List Region) (length align o : Nat) : offsetHolds rs length align o = true ↔
    align ∣ o ∧ o + length ≤ 1024
      ∧ ∀ r ∈ rs, ∀ b : Nat, ¬ ((o ≤ b ∧ b < o + length) ∧ (r.offset ≤ b ∧ b < r.offset + r.length)) := by
  have hclear : ∀ r : Region, (!(Region.overlaps ⟨o, length⟩ r)) = true ↔
      ∀ b : Nat, ¬ ((o ≤ b ∧ b < o + length) ∧ (r.offset ≤ b ∧ b < r.offset + r.length)) := by
    intro r
    rw [Bool.not_eq_true', ← Bool.not_eq_true, overlaps_iff, not_exists]
  rw [offsetHolds, Bool.and_eq_true, Bool.and_eq_true, List.all_eq_true, beq_iff_eq, decide_eq_true_iff, and_assoc,
    Nat.dvd_iff_mod_eq_zero]
  simp only [hclear, Config.imageSize]

theorem firstFit_eq_find (rs : List Region) (length align fuel o : Nat) :
    firstFit rs length align fuel o = (List.range' o fuel).find? (offsetHolds rs length align) := by
  induction fuel generalizing o with
  | zero => rfl
  | succ fuel ih =>
    rw [firstFit, List.range'_succ, List.find?_cons, ih]
    cases offsetHolds rs length align o <;> rfl

theorem firstFit_eq_some (rs : List Region) (length align fuel o : Nat) :
    firstFit rs length align fuel 0 = some o
      ↔ o < fuel ∧ offsetHolds rs length align o = true ∧ ∀ o', o' < o → offsetHolds rs length align o' ≠ true := by
  rw [firstFit_eq_find, List.find?_range'_eq_some]
  simp only [List.mem_range'_1, Nat.zero_le, true_and, Nat.zero_add, forall_const, Bool.not_eq_true', Bool.not_eq_true]
  tauto

theorem firstFit_eq_none (rs : List Region) (length align fuel : Nat) :
    firstFit rs length align fuel 0 = none ↔ ∀ o, o < fuel → offsetHolds rs length align o ≠ true := by
  rw [firstFit_eq_find, List.find?_range'_eq_none]
  simp

/-- A region of a length but 0 goes where first fit puts it. -/
theorem placeRegion_of_pos {length : Nat} (h : 1 ≤ length) (rs : List Region) (align : Nat) :
    placeRegion rs length align = (firstFit rs length align 1024 0).map fun o => some ⟨o, length⟩ :=
  if_neg (Nat.ne_of_gt h)

theorem offset_lt_of_holds {rs : List Region} {length align o : Nat} (hl : 1 ≤ length)
    (h : offsetHolds rs length align o = true) : o < 1024 := by
  have := ((offsetHolds_iff ..).mp h).2.1
  omega

theorem placeRegion_eq_some {length : Nat} (hl : 1 ≤ length) (rs : List Region) (align o : Nat) :
    placeRegion rs length align = some (some ⟨o, length⟩)
      ↔ offsetHolds rs length align o = true ∧ ∀ o', o' < o → offsetHolds rs length align o' ≠ true := by
  have hmap : placeRegion rs length align = some (some ⟨o, length⟩) ↔ firstFit rs length align 1024 0 = some o := by
    rw [placeRegion_of_pos hl]
    simp
  rw [hmap, firstFit_eq_some]
  exact ⟨fun h => h.2, fun h => ⟨offset_lt_of_holds hl h.1, h⟩⟩

theorem placeRegion_eq_none {length : Nat} (hl : 1 ≤ length) (rs : List Region) (align : Nat) :
    placeRegion rs length align = none ↔ ∀ o, offsetHolds rs length align o ≠ true := by
  rw [placeRegion_of_pos hl, Option.map_eq_none_iff, firstFit_eq_none]
  exact ⟨fun h o ho => h o (offset_lt_of_holds hl ho) ho, fun h o _ => h o⟩

/-- What a placement gives: the absent region for length 0, and otherwise a region of the length at an offset that
holds it. -/
theorem placeRegion_cases {rs : List Region} {length align : Nat} {r : Option Region}
    (h : placeRegion rs length align = some r) :
    (length = 0 ∧ r = none) ∨ (1 ≤ length ∧ ∃ o, r = some ⟨o, length⟩ ∧ offsetHolds rs length align o = true) := by
  by_cases hl : length = 0
  · rw [placeRegion, if_pos hl] at h
    exact .inl ⟨hl, (Option.some.inj h).symm⟩
  · have hpos : 1 ≤ length := Nat.one_le_iff_ne_zero.mpr hl
    have h' := h
    rw [placeRegion_of_pos hpos, Option.map_eq_some_iff] at h'
    obtain ⟨o, -, rfl⟩ := h'
    exact .inr ⟨hpos, o, rfl, ((placeRegion_eq_some hpos rs align o).mp h).1⟩

theorem regionLength_placed {rs : List Region} {length align : Nat} {r : Option Region}
    (h : placeRegion rs length align = some r) : regionLength r = length := by
  obtain ⟨hl, rfl⟩ | ⟨-, o, rfl, -⟩ := placeRegion_cases h
  · exact hl.symm
  · rfl

/-! ## The exchange length (R117) -/

/-- What an entry adds to the exchange length. -/
def entryCost (e : MapEntry) : Nat := 10 * (regionLength e.output + regionLength e.input) + 84

theorem exchangeLength_eq (es : List MapEntry) : exchangeLength es = 100 + (es.map entryCost).sum := by
  induction es with
  | nil => rfl
  | cons e es ih =>
    simp only [exchangeLength, List.map_cons, List.sum_cons, entryCost] at ih ⊢
    omega

theorem exchangeLength_perm {es fs : List MapEntry} (h : es.Perm fs) : exchangeLength es = exchangeLength fs := by
  rw [exchangeLength_eq, exchangeLength_eq, (h.map entryCost).sum_eq]

theorem exchangeLength_cons (e : MapEntry) (es : List MapEntry) :
    exchangeLength (e :: es) = exchangeLength es + entryCost e := by
  rw [exchangeLength_eq, exchangeLength_eq, List.map_cons, List.sum_cons]; omega

theorem exchangeLength_sublist {es fs : List MapEntry} (h : es.Sublist fs) : exchangeLength es ≤ exchangeLength fs := by
  induction h with
  | slnil => exact Nat.le_refl _
  | cons e _ ih => rw [exchangeLength_cons]; omega
  | cons_cons e _ ih => rw [exchangeLength_cons, exchangeLength_cons]; omega

theorem fits_iff (r : RackSettings) (es : List MapEntry) : fits r es = true ↔
    exchangeLength es * r.rate.bitTime + 1000 * r.reserve + 1000 * 20 ≤ 1000 * r.period := by
  rw [fits, decide_eq_true_iff]; rfl

/-- A map with fewer entries fits what the map fits. -/
theorem fits_sublist {r : RackSettings} {es fs : List MapEntry} (h : es.Sublist fs) (hf : fits r fs = true) :
    fits r es = true := by
  rw [fits_iff] at hf ⊢
  have := Nat.mul_le_mul_right r.rate.bitTime (exchangeLength_sublist h)
  omega

theorem fits_congr {r r' : RackSettings} (hrate : r'.rate = r.rate) (hperiod : r'.period = r.period)
    (hreserve : r'.reserve = r.reserve) (es : List MapEntry) : fits r' es = fits r es := by
  rw [fits, fits, hrate, hperiod, hreserve]

/-! ## An entry put in its place -/

theorem insertEntry_perm (e : MapEntry) (es : List MapEntry) :
    (insertEntry e es).Perm (e :: es.filter (·.slot != e.slot)) := by
  have hsplit : (es.filter (·.slot < e.slot) ++ es.filter (e.slot < ·.slot)).Perm (es.filter (·.slot != e.slot)) := by
    have hlower : es.filter (·.slot < e.slot) = (es.filter (·.slot != e.slot)).filter (·.slot < e.slot) := by
      rw [List.filter_filter]
      exact List.filter_congr fun x _ => by rw [Bool.eq_iff_iff]; simpa using fun h => Fin.ne_of_lt h
    have hupper : es.filter (e.slot < ·.slot) = (es.filter (·.slot != e.slot)).filter fun x => !decide (x.slot < e.slot) := by
      rw [List.filter_filter]
      refine List.filter_congr fun x _ => ?_
      rw [Bool.eq_iff_iff]
      simp only [decide_eq_true_eq, Bool.and_eq_true, bne_iff_ne, Bool.not_eq_true', decide_eq_false_iff_not, not_lt]
      exact ⟨fun h => ⟨h.le, (Fin.ne_of_lt h).symm⟩, fun h => lt_of_le_of_ne h.1 h.2.symm⟩
    rw [hlower, hupper]
    exact List.filter_append_perm ..
  rw [insertEntry, List.append_assoc, List.singleton_append]
  exact List.perm_middle.trans (hsplit.cons e)

theorem insertEntry_perm_of_new {e : MapEntry} {es : List MapEntry} (h : ∀ x ∈ es, x.slot ≠ e.slot) :
    (insertEntry e es).Perm (e :: es) := by
  have hsame : es.filter (·.slot != e.slot) = es := List.filter_eq_self.mpr fun x hx => by simpa using h x hx
  simpa [hsame] using insertEntry_perm e es

theorem regionsSound_perm {rs ss : List Region} (h : rs.Perm ss) (hr : RegionsSound rs) : RegionsSound ss :=
  ⟨(h.pairwise_iff fun hab o ho => hab o ⟨ho.2, ho.1⟩).mp hr.1, fun r hmem => hr.2 r (h.mem_iff.mpr hmem)⟩

theorem regionsSound_sublist {rs ss : List Region} (h : rs.Sublist ss) (hs : RegionsSound ss) : RegionsSound rs :=
  ⟨hs.1.sublist h, fun r hr => hs.2 r (h.subset hr)⟩

theorem entriesSound_sublist {es fs : List MapEntry} (h : es.Sublist fs) (hf : EntriesSound fs) : EntriesSound es :=
  ⟨hf.1.sublist h, regionsSound_sublist (h.filterMap _) hf.2.1, regionsSound_sublist (h.filterMap _) hf.2.2⟩

/-- A region placed keeps a direction's regions sound. -/
theorem regionsSound_placed {rs : List Region} {length align : Nat} {r : Option Region}
    (h : placeRegion rs length align = some r) (hs : RegionsSound rs) : RegionsSound (r.toList ++ rs) := by
  obtain ⟨-, rfl⟩ | ⟨hl, o, rfl, ho⟩ := placeRegion_cases h
  · exact hs
  · obtain ⟨-, hend, hfree⟩ := (offsetHolds_iff ..).mp ho
    refine ⟨List.pairwise_cons.mpr ⟨hfree, hs.1⟩, fun x hx => ?_⟩
    obtain rfl | hx := List.mem_cons.mp hx
    · exact ⟨hl, hend⟩
    · exact hs.2 x hx

theorem filterMap_insertEntry_perm (field : MapEntry → Option Region) (e : MapEntry) (es : List MapEntry) :
    ((field e).toList ++ (es.filter (·.slot != e.slot)).filterMap field).Perm ((insertEntry e es).filterMap field) := by
  have h := (insertEntry_perm e es).symm.filterMap field
  rw [List.filterMap_cons] at h
  cases hf : field e <;> rw [hf] at h <;> exact h

theorem entriesSound_insert {s : State} {es : List MapEntry} {k : Slot} {e : MapEntry} (hs : EntriesSound es)
    (h : tryPlace s es k = .placed e) : EntriesSound (insertEntry e es) := by
  obtain ⟨rfl, -, -, hout, hin, -⟩ := tryPlace_placed h
  have hother := entriesSound_sublist (es.filter_sublist (p := (·.slot != e.slot))) hs
  refine ⟨?_, regionsSound_perm (filterMap_insertEntry_perm (·.output) e es) (regionsSound_placed hout hother.2.1),
    regionsSound_perm (filterMap_insertEntry_perm (·.input) e es) (regionsSound_placed hin hother.2.2)⟩
  rw [insertEntry, List.append_assoc, List.pairwise_append]
  refine ⟨hs.1.filter _, List.pairwise_cons.mpr ⟨fun x hx => by simpa using (List.mem_filter.mp hx).2, hs.1.filter _⟩, ?_⟩
  intro a ha b hb
  have ha : a.slot < e.slot := by simpa using (List.mem_filter.mp ha).2
  obtain rfl | hb := List.mem_cons.mp hb
  · exact ha
  · exact ha.trans (by simpa using (List.mem_filter.mp hb).2)

/-! ## A try for a slot that the map does not hold -/

section
variable {s : State} {es : List MapEntry} {k : Slot} {i : ProfileIndex}

/-- The four steps of R115, for a slot with a profile and no entry. -/
theorem tryPlace_of_new (hi : (s.slot k).profileIndex = some i) (hes : ∀ e ∈ es, e.slot ≠ k) : tryPlace s es k =
    match placeRegion (es.filterMap (·.output)) (s.profile i).outputLength (s.profile i).alignment,
      placeRegion (es.filterMap (·.input)) (s.profile i).inputLength (s.profile i).alignment with
    | some o, some i' =>
      if fits s.settings (insertEntry ⟨k, (s.slot k).epoch, i, o, i'⟩ es) then .placed ⟨k, (s.slot k).epoch, i, o, i'⟩
      else .parked .cycle
    | _, _ => .parked .image := by
  have hself : es.filter (·.slot != k) = es := List.filter_eq_self.mpr fun x hx => by simpa using hes x hx
  have hprofile : s.profileOf k = s.profile i := by rw [State.profileOf, hi]; rfl
  simp only [tryPlace, hself, hprofile, hi, Option.getD_some, outputRegions, inputRegions]
  cases placeRegion (es.filterMap (·.output)) (s.profile i).outputLength (s.profile i).alignment with
  | none => rfl
  | some o =>
    cases placeRegion (es.filterMap (·.input)) (s.profile i).inputLength (s.profile i).alignment with
    | none => rfl
    | some i' => rfl

theorem fits_insertEntry {r : RackSettings} {e : MapEntry} (hes : ∀ x ∈ es, x.slot ≠ e.slot) :
    fits r (insertEntry e es) = true ↔
      (exchangeLength es + entryCost e) * r.rate.bitTime + 1000 * r.reserve + 1000 * 20 ≤ 1000 * r.period := by
  rw [fits_iff, exchangeLength_perm (insertEntry_perm_of_new hes), exchangeLength_cons]

end

/-- Settles O32: first fit is a search of the offsets below 1024 from 0 on, and a placed entry adds its cost to the
exchange length. -/
theorem placementTakesLowestOffset : Obligations.PlacementTakesLowestOffset := by
  refine ⟨fun rs length align _ hl _ => ?_, fun s es k i hi hes => ?_⟩
  · dsimp only
    simp only [← offsetHolds_iff]
    refine ⟨placeRegion_eq_some hl rs align, placeRegion_eq_none hl rs align, fun o l h => ?_, rfl⟩
    exact regionLength_placed h
  · dsimp only
    rw [tryPlace_of_new hi hes]
    have hfit : ∀ o i', placeRegion (es.filterMap (·.output)) (s.profile i).outputLength (s.profile i).alignment = some o →
        placeRegion (es.filterMap (·.input)) (s.profile i).inputLength (s.profile i).alignment = some i' →
        (fits s.settings (insertEntry ⟨k, (s.slot k).epoch, i, o, i'⟩ es) = true ↔
          (exchangeLength es + (10 * ((s.profile i).outputLength + (s.profile i).inputLength) + 84))
            * s.settings.rate.bitTime + 1000 * s.settings.reserve + 1000 * 20 ≤ 1000 * s.settings.period) := by
      intro o i' ho hi'
      rw [fits_insertEntry hes, entryCost, regionLength_placed ho, regionLength_placed hi']
    refine ⟨fun h => ?_, fun o i' ho hi' hnot => ?_, fun o i' ho hi' hfits => ?_⟩
    · obtain h | h := h <;> rw [h]
      cases placeRegion (es.filterMap (·.output)) (s.profile i).outputLength (s.profile i).alignment <;> rfl
    · rw [ho, hi']
      exact if_neg (mt (hfit o i' ho hi').mp hnot)
    · rw [ho, hi']
      exact if_pos ((hfit o i' ho hi').mpr hfits)

end Sys2Proof.Machine
end

section
/-!
PROOF. The bounds of the exchange length (R119): at most sixteen entries, and in each direction regions that share no
byte of the 1024 of the image.
-/
namespace Sys2Proof.Machine

/-- Sound regions take 1024 bytes at most: no two of them take the same byte. -/
theorem sum_lengths_le {rs : List Region} (h : RegionsSound rs) : (rs.map (·.length)).sum ≤ 1024 := by
  have hnodup : (rs.flatMap fun r => List.range' r.offset r.length).Nodup := by
    rw [List.nodup_flatMap]
    refine ⟨fun r _ => List.nodup_range', h.1.imp fun {a b} hab => ?_⟩
    intro o ha hb
    exact hab o ⟨List.mem_range'_1.mp ha, List.mem_range'_1.mp hb⟩
  have hsub : rs.flatMap (fun r => List.range' r.offset r.length) ⊆ List.range 1024 := by
    intro o ho
    obtain ⟨r, hr, ho⟩ := List.mem_flatMap.mp ho
    have hend := (h.2 r hr).2
    have := List.mem_range'_1.mp ho
    exact List.mem_range.mpr (by omega)
  have hlength := (List.subperm_of_subset hnodup hsub).length_le
  simpa [List.length_flatMap] using hlength

theorem sum_regionLength (field : MapEntry → Option Region) (es : List MapEntry) :
    (es.map fun e => regionLength (field e)).sum = ((es.filterMap field).map (·.length)).sum := by
  induction es with
  | nil => rfl
  | cons e es ih =>
    rw [List.map_cons, List.sum_cons, ih, List.filterMap_cons]
    cases field e with
    | none => exact Nat.zero_add _
    | some r => rfl

theorem EntriesSound.length_le {es : List MapEntry} (h : EntriesSound es) : es.length ≤ 16 := by
  have hnodup : (es.map (·.slot)).Nodup := List.pairwise_map.mpr (h.1.imp fun hlt => Fin.ne_of_lt hlt)
  simpa using hnodup.length_le_card

theorem exchangeLength_sums (es : List MapEntry) : exchangeLength es =
    100 + 10 * ((es.map fun e => regionLength e.output).sum + (es.map fun e => regionLength e.input).sum)
      + 84 * es.length := by
  induction es with
  | nil => rfl
  | cons e es ih =>
    simp only [exchangeLength_cons, ih, entryCost, List.map_cons, List.sum_cons, List.length_cons]; omega

theorem EntriesSound.bounds {es : List MapEntry} (h : EntriesSound es) :
    es.length ≤ 16 ∧ (es.map fun e => regionLength e.output).sum ≤ 1024
      ∧ (es.map fun e => regionLength e.input).sum ≤ 1024
      ∧ 100 ≤ exchangeLength es ∧ exchangeLength es ≤ 21924 := by
  have hlen := h.length_le
  have hout : (es.map fun e => regionLength e.output).sum ≤ 1024 := by
    rw [sum_regionLength (·.output)]; exact sum_lengths_le h.2.1
  have hin : (es.map fun e => regionLength e.input).sum ≤ 1024 := by
    rw [sum_regionLength (·.input)]; exact sum_lengths_le h.2.2
  have hsum := exchangeLength_sums es
  omega

theorem bitTime_bounds (r : Rate) : 20 ≤ r.bitTime ∧ r.bitTime ≤ 80 := by
  cases r <;> decide

theorem minReserve_ge (r : Rate) : 30 ≤ r.minReserve := by
  cases r <;> decide

theorem EntriesSound.time_bounds {es : List MapEntry} (h : EntriesSound es) (rate : Rate) :
    2000 ≤ exchangeTime rate es ∧ exchangeTime rate es ≤ 1753920 := by
  obtain ⟨-, -, -, hlow, hhigh⟩ := h.bounds
  obtain ⟨hbit, hbit'⟩ := bitTime_bounds rate
  exact ⟨Nat.mul_le_mul hlow hbit, Nat.mul_le_mul hhigh hbit'⟩

/-- Sixteen cards of 64 bytes in each direction fill both images. -/
def fullMap : List MapEntry :=
  allSlots.map fun k => ⟨k, 0, 0, some ⟨64 * k.val, 64⟩, some ⟨64 * k.val, 64⟩⟩

theorem regionsSound_fullMap : RegionsSound (allSlots.map fun k => (⟨64 * k.val, 64⟩ : Region)) := by
  refine ⟨List.pairwise_map.mpr (allSlots_nodup.imp fun {a b} hab o => ?_), fun r hr => ?_⟩
  · have := Fin.val_ne_of_ne hab
    dsimp only
    omega
  · obtain ⟨k, -, rfl⟩ := List.mem_map.mp hr
    have := k.isLt
    dsimp only
    omega

theorem entriesSound_fullMap : EntriesSound fullMap := by
  refine ⟨List.pairwise_map.mpr (List.pairwise_lt_finRange 16), ?_, ?_⟩ <;>
  · rw [fullMap, List.filterMap_map]
    exact (List.filterMap_eq_map (f := fun k : Slot => (⟨64 * k.val, 64⟩ : Region)) ▸ regionsSound_fullMap)

/-- Settles O33: the sums of the region lengths are at most 1024 a direction, and `fullMap` reaches the largest. -/
theorem exchangeLengthBounds : Obligations.ExchangeLengthBounds := by
  refine ⟨⟨exchangeLength_eq, fun _ _ => exchangeLength_perm, fun es _ => exchangeLength_sublist es.filter_sublist⟩,
    fun es h => ?_, rfl, ⟨fullMap, entriesSound_fullMap, by decide⟩, fun r hr => ?_, fun e ho hi => ?_,
    fun r e hrate hperiod hreserve hlong => ?_⟩
  · obtain ⟨hlen, hout, hin, hlow, hhigh⟩ := h.bounds
    refine ⟨hlen, hout, hin, hlow, hhigh, h.time_bounds, fun r _ hr => ?_⟩
    have := (h.time_bounds r.rate).2
    omega
  · obtain ⟨⟨hlow, hhigh⟩, hres, -⟩ := hr
    have := minReserve_ge r.rate
    omega
  · rw [exchangeLength_cons, entryCost]
    have : exchangeLength [] = 100 := rfl
    omega
  · rw [← Bool.not_eq_true, fits_iff, hrate, hperiod, hreserve, exchangeLength_cons, entryCost]
    have : exchangeLength [] = 100 := rfl
    simp only [Rate.bitTime]
    omega

end Sys2Proof.Machine
end

section
/-!
PROOF. The two maps along a step (O6): a build offers a map of the entries it kept and placed, a swap makes the Offered
Map the Active Map, a reset empties both, and nothing else touches either.
-/
namespace Sys2Proof.Machine

section
variable {s t : State}

/-- The Active Map and the Offered Map. -/
def mapPair (s : State) : ImageMap × Option ImageMap := (s.maps.active, s.maps.offered)

theorem mapPair_of_maps (h : t.maps = s.maps) : mapPair t = mapPair s := by rw [mapPair, h]; rfl

theorem mapPair_withdraw (k : Slot) (u : State) : mapPair (withdraw k u) = mapPair u := by
  rw [mapPair, withdraw_maps]; rfl

theorem mapPair_faultEntry (k : Slot) (reason : FaultReason) (code : Option Byte) (u : State) :
    mapPair (faultEntry k reason code u) = mapPair u := mapPair_withdraw k u

theorem mapPair_reportFault (k : Slot) (e : Epoch) (reason : FaultReason) (code : Option Byte) (u : State) :
    mapPair (reportFault k e reason code u) = mapPair u := by
  obtain ⟨-, -, h⟩ | ⟨-, h⟩ := reportFault_cases u k e reason code <;> rw [h]
  exact mapPair_faultEntry ..

theorem mapPair_eachSlot {act : Slot → State → State} (ks : List Slot)
    (same : ∀ k u, mapPair (act k u) = mapPair u) (u : State) : mapPair (eachSlot ks act u) = mapPair u :=
  eachSlot_same mapPair ks same u

/-! ## The maps that a build leaves -/

/-- What a build keeps as it goes: entries that are sound and fit, and the maps and settings of its start. -/
def BuildSound (s : State) (b : BuildState) : Prop :=
  EntriesSound b.entries ∧ fits s.settings b.entries = true ∧ b.state.settings = s.settings ∧ mapPair b.state = mapPair s

theorem reportPlaced_mapPair (k : Slot) (u : State) : mapPair (reportPlaced k u) = mapPair u := by
  unfold reportPlaced; split <;> rfl

theorem reportParked_mapPair (k : Slot) (reason : ParkReason) (u : State) :
    mapPair (reportParked k reason u) = mapPair u := by
  unfold reportParked; split <;> rfl

theorem BuildSound.placed {b : BuildState} (h : BuildSound s b) {k : Slot} {e : MapEntry}
    (ht : tryPlace b.state b.entries k = .placed e) {u : State} (hset : u.settings = s.settings)
    (hu : mapPair u = mapPair s) (ks : List Slot) : BuildSound s ⟨u, insertEntry e b.entries, ks⟩ := by
  obtain ⟨hsound, -, hsame, -⟩ := h
  obtain ⟨-, -, -, -, -, hfits⟩ := tryPlace_placed ht
  exact ⟨entriesSound_insert hsound ht, hsame ▸ hfits, hset, hu⟩

theorem BuildSound.retryParked {b : BuildState} (h : BuildSound s b) (k : Slot) : BuildSound s (retryParked b k) := by
  have hset := sets_of_fixtures (fixtures_retryParked b k)
  obtain ⟨hsound, hfits, hsame, hpair⟩ := h
  unfold Machine.retryParked at hset ⊢
  split at hset
  · rename_i e ht
    exact BuildSound.placed ⟨hsound, hfits, hsame, hpair⟩ ht (hset.trans hsame) ((reportPlaced_mapPair ..).trans hpair) _
  · exact ⟨hsound, hfits, hset.trans hsame, (reportParked_mapPair ..).trans hpair⟩

theorem BuildSound.applyAdd {b : BuildState} (h : BuildSound s b) (k : Slot) : BuildSound s (applyAdd b k) := by
  have hset := sets_of_fixtures (fixtures_applyAdd b k)
  obtain ⟨hsound, hfits, hsame, hpair⟩ := h
  unfold Machine.applyAdd at hset ⊢
  split at hset
  · rename_i e ht
    exact BuildSound.placed ⟨hsound, hfits, hsame, hpair⟩ ht (hset.trans hsame) ((reportPlaced_mapPair ..).trans hpair) _
  · exact ⟨hsound, hfits, hset.trans hsame, (reportParked_mapPair ..).trans hpair⟩

theorem foldl_buildSound {act : BuildState → Slot → BuildState} (hact : ∀ b k, BuildSound s b → BuildSound s (act b k))
    (ks : List Slot) (b : BuildState) (h : BuildSound s b) : BuildSound s (ks.foldl act b) := by
  induction ks generalizing b with
  | nil => exact h
  | cons k ks ih => exact ih _ (hact b k h)

/-- The maps that a build under way leaves once it ends (R137). -/
theorem offerMap_mapPair (removed : List Slot) (b : BuildState) : mapPair (offerMap removed b) = mapPair b.state
    ∨ mapPair (offerMap removed b)
      = (b.state.maps.active, some ⟨nextGeneration b.state.maps.active.generation, b.entries⟩) := by
  unfold offerMap
  dsimp only
  split
  · exact .inl rfl
  · exact .inr rfl

/-- A build leaves both maps, or offers a sound map of the next generation. -/
theorem runBuild_mapPair (h : MapsSound s) : mapPair (runBuild s) = mapPair s
    ∨ ∃ es, EntriesSound es ∧ fits s.settings es = true
      ∧ mapPair (runBuild s) = (s.maps.active, some ⟨nextGeneration s.maps.active.generation, es⟩) := by
  obtain ⟨hsound, hfits, -⟩ := h
  have hkept : (keptEntries s.maps).Sublist s.maps.active.entries := List.filter_sublist
  have hend : BuildSound s ((addedSlots s.maps.changes).foldl applyAdd (s.maps.waitList.foldl retryParked
      { state := s.modMaps fun m => { m with changes := [] }, entries := keptEntries s.maps, placed := [] })) :=
    foldl_buildSound (fun b k hb => hb.applyAdd k) _ _ (foldl_buildSound (fun b k hb => hb.retryParked k) _ _
      ⟨entriesSound_sublist hkept hsound, fits_sublist hkept hfits, rfl, rfl⟩)
  rw [runBuild]
  generalize List.foldl applyAdd _ _ = b at hend ⊢
  obtain ⟨hes, hfit, -, hpair⟩ := hend
  have hactive : b.state.maps.active = s.maps.active := congrArg Prod.fst hpair
  obtain hsame | hnew := offerMap_mapPair (removedSlots s.maps) b
  · exact .inl (hsame.trans hpair)
  · exact .inr ⟨b.entries, hes, hfit, by rw [hnew, hactive]⟩

/-! ## The moves of the maps -/

/-- What a command can do to the two maps. -/
inductive MapsMoved (s t : State) : Prop
  | kept (h : mapPair t = mapPair s)
  | built (hdue : buildDue s.maps = true) (h : t = runBuild s)
  | swapped (m : ImageMap) (hm : s.maps.offered = some m) (hx : s.cycle.exchange = none)
      (hx' : t.cycle.exchange.isSome = true) (h : mapPair t = (m, none))
  | restarted (h : t = restartAll s)

theorem serveFrame_moved (f : HeldFrame) (u : State) (hu : mapPair u = mapPair s) (hx : s.cycle.exchange = none) :
    MapsMoved s (serveFrame f u) := by
  have hm := serveFrame_maps f u
  split at hm
  · cases hoffered : u.maps.offered with
    | none =>
      have hswap : swapMaps u = u := by simp only [swapMaps, hoffered]
      exact .kept ((mapPair_of_maps (hm.trans (congrArg State.maps hswap))).trans hu)
    | some m =>
      refine .swapped m ((congrArg Prod.snd hu).symm.trans hoffered) hx rfl ?_
      rw [mapPair, hm, swapMaps_maps hoffered]
  · exact .kept ((mapPair_of_maps hm).trans hu)

theorem acceptFrame_moved (f : HeldFrame) (g : Nat) (long : Bool) : MapsMoved s (acceptFrame f g long s) := by
  have htaken : mapPair (frameTaken f g long s) = mapPair s := mapPair_of_maps (frameTaken_maps f g long)
  have hexchange : (frameTaken f g long s).cycle.exchange = s.cycle.exchange := by
    unfold frameTaken; cases long <;> split <;> rfl
  rw [acceptFrame_eq]
  split
  · rename_i hfree
    simp only [backplaneIdle, Bool.and_eq_true, Option.isNone_iff_eq_none] at hfree
    exact serveFrame_moved f _ htaken (hexchange ▸ hfree.1.1)
  · exact .kept htaken

theorem mapPair_putSettings (r : RackSettings) (u : State) : mapPair (putSettings r u) = mapPair u := by
  have hbudget : ∀ b v, mapPair (handBudget b v) = mapPair v := by
    intro b v; unfold handBudget; split
    · exact mapPair_of_maps (reevaluateClaims_maps v)
    · rfl
  have hadmission : ∀ b v, mapPair (handAdmission b v) = mapPair v := by
    intro b v; unfold handAdmission; split
    · exact mapPair_eachSlot _ (fun k w => mapPair_of_maps (admissionGate_maps w k)) v
    · rfl
  have htiming : ∀ b v, mapPair (handTiming b v) = mapPair v := by
    intro b v; unfold handTiming; split <;> rfl
  rw [putSettings, htiming, hadmission, hbudget]; rfl

theorem mapPair_restartAll (u : State) : mapPair (restartAll u) = (MapBuilder.reset.active, none) := by
  have hresume : ∀ k v, mapPair (resumeInsertion k v) = mapPair v := by
    intro k v; unfold resumeInsertion; split
    · exact mapPair_of_maps (lineAsserted_maps k v)
    · rfl
  rw [restartAll, mapPair_eachSlot _ (fun k w => mapPair_of_maps (admissionGate_maps w k)), mapPair_eachSlot _ hresume]
  rfl

theorem mapPair_coldReset (u : State) :
    mapPair (eachSlot allSlots redetect (coldState u)) = (MapBuilder.reset.active, none) := by
  rw [mapPair_eachSlot]
  · rfl
  · intro k v; unfold redetect; split
    · exact mapPair_of_maps (lineAsserted_maps k v)
    · rfl

theorem Served.moved (h : Served s t) : MapsMoved s t := by
  cases h with
  | modeSet k m =>
    refine .kept ?_
    unfold setMode
    dsimp only
    split
    · rfl
    · split
      · exact mapPair_of_maps (admissionGate_maps _ k)
      · rfl
  | stopped k _ => exact .kept (mapPair_withdraw k s)
  | faultedCleared k _ => exact .kept (mapPair_of_maps (admissionGate_maps _ k))
  | profilesPurged => exact .kept (mapPair_of_maps (by rw [foldl_setProfile_frame]))
  | settingsPut args r _ _ => exact .kept (mapPair_putSettings r s)
  | restarted => exact .restarted rfl
  | _ => exact .kept rfl

theorem mapPair_identCompletion (x : Transaction) (o : SegmentOutcome) (u : State) :
    mapPair (identCompletion x o u) = mapPair u := by
  have h := identCompletion_end x o u
  generalize identCompletion x o u = v at h ⊢
  cases h with
  | discarded => rfl
  | retried => rfl
  | timedOut => exact mapPair_reportFault ..
  | faulted => exact mapPair_reportFault ..
  | matched => exact mapPair_of_maps (requestClaim_maps _ _)
  | stale => rfl

theorem mapPair_completeTransaction (x : Transaction) (c : Completion) (u : State) :
    mapPair (completeTransaction x c u) = mapPair u := by
  cases hx : x.origin with
  | passThrough =>
    rw [completeTransaction_of_passThrough _ _ hx]
    unfold passThroughCompletion; split <;> rfl
  | sequencer =>
    rw [completeTransaction_of_sequencer _ _ hx]
    have h := downloadCompletion_end x c u
    generalize downloadCompletion x c u = v at h ⊢
    cases h with
    | discarded => rfl
    | wentOn => rfl
    | complete => rfl
    | stale => rfl
    | failed => exact mapPair_reportFault ..

theorem mapPair_cardArrived (k : Slot) (e : Epoch) (u : State) : mapPair (cardArrived k e u) = mapPair u := by
  unfold cardArrived
  split
  · dsimp only
    split
    · exact mapPair_of_maps (admissionGate_maps _ k)
    · rfl
  · rfl

theorem mapPair_cardGone (k : Slot) (u : State) : mapPair (cardGone k u) = mapPair u := by
  rw [cardGone, mapPair_withdraw]
  split
  · unfold emptySlot; split <;> rfl
  · rfl

theorem mapPair_accountSlot (limit : Nat) (p : Addressed × WindowOutcome) (u : State) :
    mapPair (accountSlot limit u p) = mapPair u := by
  obtain h | ⟨-, -, ⟨data, diag, -, h⟩ | ⟨-, -, h⟩ | ⟨-, -, h⟩⟩ := accountSlot_cases (s := u) limit p.1 p.2 <;>
    rw [h]
  · unfold takeResponse; dsimp only; split <;> rfl
  · rfl
  · exact mapPair_faultEntry ..

theorem Effect.moved (h : Effect s t) : MapsMoved s t := by
  cases h with
  | served h => exact h.moved
  | lineAsserted k => exact .kept (mapPair_of_maps (lineAsserted_maps k s))
  | lineDeasserted k => exact .kept (mapPair_of_maps (lineDeasserted_maps k s))
  | inserted k d e _ => exact .kept (mapPair_cardArrived ..)
  | removed k d _ => exact .kept (mapPair_cardGone ..)
  | identCompleted g x _ _ o => exact .kept (mapPair_identCompletion ..)
  | completed g x _ _ c => exact .kept (mapPair_completeTransaction ..)
  | rampGood k _ _ => exact .kept (mapPair_of_maps (startRamp_maps _))
  | rampBad k _ _ =>
    refine .kept ?_
    unfold Machine.rampBad; split
    · exact mapPair_reportFault ..
    · rfl
  | rampDiscarded k _ _ => exact .kept (mapPair_of_maps (startRamp_maps _))
  | powerLost k _ c _ => exact .kept (mapPair_reportFault ..)
  | configTimedOut k d _ => exact .kept (mapPair_reportFault ..)
  | built hdue => exact .built hdue rfl
  | frameAccepted _ f g long _ => exact acceptFrame_moved f g long
  | frameServed f _ hb =>
    simp only [backplaneIdle, Bool.and_eq_true, Option.isNone_iff_eq_none] at hb
    exact serveFrame_moved f _ rfl hb.1
  | accounted x _ _ _ =>
    exact .kept (foldl_same _ mapPair _ (fun u p => mapPair_accountSlot (missLimit s) p u) _)
  | _ => exact .kept rfl

/-! ## The invariant -/

theorem mapsSound_of_pair (h : MapsSound s) (hset : t.settings = s.settings) (hm : mapPair t = mapPair s) :
    MapsSound t := by
  have hactive : t.maps.active = s.maps.active := congrArg Prod.fst hm
  have hoffered : t.maps.offered = s.maps.offered := congrArg Prod.snd hm
  unfold MapsSound at h ⊢
  rw [hset, hactive, hoffered]
  exact h

theorem nextGeneration_eq (g : Nat) : nextGeneration g = if g = 65535 then 1 else g + 1 := rfl

/-- The maps as a reset leaves them fit any settings that some map fits. -/
theorem mapsSound_of_reset (hfits : fits t.settings [] = true) (h : mapPair t = (MapBuilder.reset.active, none)) :
    MapsSound t := by
  have hactive : t.maps.active = MapBuilder.reset.active := congrArg Prod.fst h
  have hoffered : t.maps.offered = none := congrArg Prod.snd h
  unfold MapsSound
  rw [hactive, hoffered]
  have hnone : RegionsSound [] := ⟨List.Pairwise.nil, fun r hr => absurd hr List.not_mem_nil⟩
  exact ⟨⟨List.Pairwise.nil, hnone, hnone⟩, hfits, by decide, fun _ hm => by cases hm⟩

theorem MapsMoved.keeps (h : MapsSound s) (hset : t.settings = s.settings) (hm : MapsMoved s t) : MapsSound t := by
  obtain ⟨hsound, hfits, hgen, hoffered⟩ := h
  cases hm with
  | kept hm => exact mapsSound_of_pair ⟨hsound, hfits, hgen, hoffered⟩ hset hm
  | built _ ht =>
    subst ht
    obtain hm | ⟨es, hes, hfit, hm⟩ := runBuild_mapPair ⟨hsound, hfits, hgen, hoffered⟩
    · exact mapsSound_of_pair ⟨hsound, hfits, hgen, hoffered⟩ hset hm
    · have ha : (runBuild s).maps.active = s.maps.active := congrArg Prod.fst hm
      have ho : (runBuild s).maps.offered = some ⟨nextGeneration s.maps.active.generation, es⟩ := congrArg Prod.snd hm
      unfold MapsSound
      rw [hset, ha, ho]
      refine ⟨hsound, hfits, hgen, fun m hm => ?_⟩
      obtain rfl := Option.some.inj hm
      exact ⟨hes, hfit, rfl⟩
  | swapped m hm _ _ ht =>
    obtain ⟨hsound', hfits', hgen'⟩ := hoffered m hm
    have ha : t.maps.active = m := congrArg Prod.fst ht
    have ho : t.maps.offered = none := congrArg Prod.snd ht
    unfold MapsSound
    rw [hset, ha, ho]
    refine ⟨hsound', hfits', ?_, fun _ hm => by cases hm⟩
    split at hgen' <;> omega
  | restarted ht =>
    exact mapsSound_of_reset (hset ▸ fits_sublist (List.nil_sublist _) hfits) (ht ▸ mapPair_restartAll s)

theorem TablesChanged.keeps_mapsSound (h : MapsSound s) (hd : TablesChanged s t) : MapsSound t := by
  cases hd with
  | profilesPurged => rw [foldl_setProfile_frame]; exact h
  | settingsPut args r _ hr =>
    obtain ⟨⟨-, hfits, hfits'⟩, -⟩ := (rackSetReason_eq_none_iff s r).mp hr
    obtain ⟨hsound, -, hgen, hoffered⟩ := h
    have hset : (putSettings r s).settings = r.clamped := sets_of_fixtures (fixtures_putSettings r s)
    have hclamped : ∀ es, fits r.clamped es = fits r es := fits_congr rfl rfl rfl
    refine mapsSound_of_pair (s := s.modMgmt fun m => { m with settings := r.clamped }) ?_ hset (mapPair_putSettings r s)
    refine ⟨hsound, (hclamped _).trans hfits, hgen, fun m hm => ?_⟩
    obtain ⟨hsound', -, hgen'⟩ := hoffered m hm
    exact ⟨hsound', (hclamped _).trans (hfits' m hm), hgen'⟩
  | _ => exact h

theorem Effect.keeps_mapsSound (h : MapsSound s) (hd : Effect s t) : MapsSound t := by
  obtain hf | hchanged := hd.fixtures_cases
  · exact hd.moved.keeps h (sets_of_fixtures hf)
  · exact hchanged.keeps_mapsSound h

theorem Done.keeps_mapsSound (h : MapsSound s) (hd : Done s t) : MapsSound t := by
  obtain ⟨u, he, hposted⟩ := hd
  refine mapsSound_of_pair (he.keeps_mapsSound h) (sets_of_fixtures hposted.fixtures_eq) (mapPair_of_maps ?_)
  cases hposted <;> rfl

theorem coldReset_mapsSound (s : State) : MapsSound (eachSlot allSlots redetect (coldState s)) := by
  refine mapsSound_of_reset ?_ (mapPair_coldReset s)
  have hset : (eachSlot allSlots redetect (coldState s)).settings = (coldState s).settings :=
    sets_of_fixtures (fixtures_eachSlot _ _ fun k u => fixtures_redetect k u)
  have hreset : (coldState s).settings = RackSettings.reset := rfl
  rw [hset, hreset]
  decide

end

/-- Settles O6: a build places only what is free and fits, and RACK SET takes only settings that both maps fit. -/
theorem stepKeepsMapsSound : Obligations.StepKeepsMapsSound := fun _ _ hs hstep =>
  step_keeps (P := MapsSound) (fun _ _ h => h) (fun u _ => coldReset_mapsSound u) (fun _ _ h hd => hd.keeps_mapsSound h)
    hs hstep

end Sys2Proof.Machine
end

section
/-!
PROOF. The head link along a step (O7): every operation keeps the Notice Queue's subjects apart, takes no reply place
that was not free, and holds the outstanding accesses level with the service channel's pass-throughs.
-/
namespace Sys2Proof.Machine

/-! ## The Notice Queue (R181) -/

/-- Every subject there is: sixteen slots and four others. -/
def allSubjects : List Subject := allSlots.map .slot ++ [.mapOffered, .mapTaken, .rackSafe, .rackResumed]

theorem mem_allSubjects (x : Subject) : x ∈ allSubjects := by
  cases x with
  | slot k => exact List.mem_append_left _ (List.mem_map_of_mem (mem_allSlots k))
  | _ => exact List.mem_append_right _ (by decide)

theorem noticesSound_of_subjects {m : Management} (hsub : (m.notices.map fun n => subjectOf n.body).Nodup)
    (hcount : ∀ n ∈ m.notices, 1 ≤ n.count ∧ n.count ≤ 255) : NoticesSound m := by
  refine ⟨List.pairwise_map.mp hsub, ?_, hcount⟩
  have hlength := (List.subperm_of_subset hsub fun x _ => mem_allSubjects x).length_le
  rwa [List.length_map] at hlength

theorem NoticesSound.subjects {m : Management} (h : NoticesSound m) :
    (m.notices.map fun n => subjectOf n.body).Nodup := List.pairwise_map.mpr h.1

theorem posted_noticesSound {m : Management} (h : NoticesSound m) (b : NoticeBody) : NoticesSound (posted b m) := by
  have hsub := h.subjects
  obtain ⟨-, -, hcount⟩ := h
  obtain ⟨front, n, back, hq, hs, -, hnew⟩ | ⟨hfresh, hnew⟩ := queueNotice_cases b m.notices
  · rw [hq] at hsub hcount
    refine noticesSound_of_subjects ?_ fun x hx => ?_
    · simpa only [posted, hnew, List.map_append, List.map_cons, hs] using hsub
    · simp only [posted, hnew, List.mem_append, List.mem_cons] at hx
      obtain hx | rfl | hx := hx
      · exact hcount x (by simp [hx])
      · dsimp only; omega
      · exact hcount x (by simp [hx])
  · refine noticesSound_of_subjects ?_ fun x hx => ?_
    · simp only [posted, hnew, List.map_append, List.map_cons, List.map_nil]
      refine List.nodup_append.mpr ⟨hsub, List.nodup_singleton _, ?_⟩
      rintro x hx y hy rfl
      obtain ⟨z, hz, rfl⟩ := List.mem_map.mp hx
      exact hfresh z hz (List.mem_singleton.mp hy)
    · simp only [posted, hnew, List.mem_append, List.mem_singleton] at hx
      obtain hx | rfl := hx
      · exact hcount x hx
      · exact ⟨Nat.le_refl 1, Nat.le_add_left 1 254⟩

theorem noticesSound_sublist {m m' : Management} (h : m'.notices.Sublist m.notices) (hm : NoticesSound m) :
    NoticesSound m' :=
  noticesSound_of_subjects (hm.subjects.sublist (h.map _)) fun n hn => hm.2.2 n (h.subset hn)

/-! ## The upstream side (R171, R172, R175) -/

/-- The upstream side with at most `n` reply places taken. -/
def UpstreamFor (n : Nat) (m : Management) : Prop :=
  m.returnLine.length ≤ 4 ∧ placesTaken m ≤ n ∧ m.outstanding.length ≤ 4
    ∧ (m.transmitter = .idle → m.returnLine = [] ∧ m.replyQueue = [])

section
variable {n : Nat} {m : Management}

/-- The choice of the next frame takes no place, and leaves nothing waiting at an idle transmitter. -/
theorem startUpstream_upstreamFor (hline : m.returnLine.length ≤ 4) (hplaces : placesTaken m ≤ n)
    (hout : m.outstanding.length ≤ 4) : UpstreamFor n (startUpstream m) := by
  obtain ⟨r, rest, hr, hs⟩ | ⟨r, rest, hr, hq, hs⟩ | ⟨hr, hq, hs⟩ := startUpstream_cases m <;> rw [hs]
  · rw [hr] at hline
    refine ⟨Nat.le_of_succ_le hline, ?_, hout, fun hidle => (by cases hidle)⟩
    exact Nat.le_trans (Nat.add_le_add_right (Nat.le_add_right ..) _) hplaces
  · refine ⟨hline, ?_, hout, fun hidle => (by cases hidle)⟩
    refine Nat.le_trans (Nat.add_le_add_right ?_ _) hplaces
    rw [hq]
    exact Nat.le_add_right _ _
  · refine ⟨hline, ?_, hout, fun _ => ⟨hr, hq⟩⟩
    exact Nat.le_trans (Nat.add_le_add_right (Nat.le_add_right ..) _) hplaces

theorem kickUpstream_upstreamFor (hline : m.returnLine.length ≤ 4) (hplaces : placesTaken m ≤ n)
    (hout : m.outstanding.length ≤ 4) : UpstreamFor n (kickUpstream m) := by
  unfold kickUpstream
  split
  · exact startUpstream_upstreamFor hline hplaces hout
  · rename_i hbusy
    exact ⟨hline, hplaces, hout, fun hidle => absurd hidle hbusy⟩

theorem joinReturnLine_length (f : ReturnFrame) {line : List ReturnFrame} (h : line.length ≤ 4) :
    (joinReturnLine f line).length ≤ 4 := by
  unfold joinReturnLine
  split
  · simp; omega
  · rename_i hfew
    have : line.length < 4 := by simpa [Config.returnPlaces] using hfew
    simp; omega

theorem UpstreamFor.congr {m' : Management} (h : UpstreamFor n m) (hup : upstream m' = upstream m)
    (hout : m'.outstanding = m.outstanding) : UpstreamFor n m' := by
  have htransmitter : m'.transmitter = m.transmitter := congrArg (·.1) hup
  have hline : m'.returnLine = m.returnLine := congrArg (·.2.1) hup
  have hqueue : m'.replyQueue = m.replyQueue := congrArg (·.2.2) hup
  unfold UpstreamFor placesTaken at h ⊢
  rwa [htransmitter, hline, hqueue, hout]

end

/-! ## The accesses in the service channel (R106) -/

/-- The pass-throughs among some transactions, as the Management Unit holds them. -/
def accessesOf (xs : List Transaction) : List PassThrough := (xs.filter (·.origin == .passThrough)).map passThroughOf

theorem accessesOf_append (xs ys : List Transaction) : accessesOf (xs ++ ys) = accessesOf xs ++ accessesOf ys := by
  simp [accessesOf]

theorem accessesOf_cons (x : Transaction) (xs : List Transaction) : accessesOf (x :: xs) = accessesOf [x] ++ accessesOf xs :=
  accessesOf_append [x] xs

theorem accessesOf_sequencer {x : Transaction} (h : x.origin = .sequencer) : accessesOf [x] = [] := by
  simp [accessesOf, h]

theorem accessesOf_passThrough {x : Transaction} (h : x.origin = .passThrough) : accessesOf [x] = [passThroughOf x] := by
  simp [accessesOf, h]

theorem accessesOf_withdraw (k : Slot) (xs : List Transaction) :
    accessesOf (xs.filter (·.slot != k)) = (accessesOf xs).filter (·.slot != k) := by
  unfold accessesOf
  rw [List.filter_map, List.filter_filter, List.filter_filter]
  congr 2
  funext x
  exact Bool.and_comm ..

/-- Removing the elements of a list that have a property, one by one, leaves the others. -/
theorem foldl_erase_filter {α : Type} [DecidableEq α] (p : α → Bool) (l : List α) :
    (l.filter p).foldl List.erase l = l.filter fun a => !p a := by
  have hkeep : ∀ (a : α) (rs l : List α), a ∉ rs → rs.foldl List.erase (a :: l) = a :: rs.foldl List.erase l := by
    intro a rs
    induction rs with
    | nil => intros; rfl
    | cons r rs ih =>
      intro l ha
      obtain ⟨hr, hrs⟩ : a ≠ r ∧ a ∉ rs := by simpa using ha
      rw [List.foldl_cons, List.foldl_cons, List.erase_cons_tail (by simpa using hr), ih _ hrs]
  induction l with
  | nil => rfl
  | cons a l ih =>
    by_cases hp : p a = true
    · rw [List.filter_cons_of_pos hp, List.filter_cons_of_neg (by simp [hp]), List.foldl_cons, List.erase_cons_head, ih]
    · rw [List.filter_cons_of_neg hp, List.filter_cons_of_pos (by simp [hp]), hkeep _ _ _ (by simp [hp]), ih]

/-! ## The head link with at most `n` places taken -/

/-- The head link's invariant, with at most `n` reply places taken. -/
structure LinkSound (n : Nat) (s : State) : Prop where
  notices : NoticesSound s.mgmt
  up : UpstreamFor n s.mgmt
  kinds : passThroughKinds s.service
  accesses : (accessesOf (serviceWork s.service)).Perm s.mgmt.outstanding

theorem headLinkSound_iff (s : State) : HeadLinkSound s ↔ LinkSound 8 s :=
  ⟨fun ⟨hn, hu, hk, ha⟩ => ⟨hn, hu, hk, ha⟩, fun ⟨hn, hu, hk, ha⟩ => ⟨hn, hu, hk, ha⟩⟩

section
variable {n : Nat} {s t : State}

theorem LinkSound.mono {n' : Nat} (h : LinkSound n s) (hn : n ≤ n') : LinkSound n' s := by
  obtain ⟨hnotices, ⟨hline, hplaces, hup⟩, hkinds, hacc⟩ := h
  exact ⟨hnotices, ⟨hline, hplaces.trans hn, hup⟩, hkinds, hacc⟩

theorem LinkSound.congr (h : LinkSound n s) (hm : t.mgmt = s.mgmt) (hw : serviceWork t.service = serviceWork s.service) :
    LinkSound n t := by
  obtain ⟨hnotices, hup, hkinds, hacc⟩ := h
  refine ⟨hm ▸ hnotices, hm ▸ hup, ?_, by rw [hw, hm]; exact hacc⟩
  unfold passThroughKinds at hkinds ⊢
  rwa [hw]

theorem LinkSound.of_mgmt (h : LinkSound n s) (hm : t.mgmt = s.mgmt) (hv : t.service = s.service) : LinkSound n t :=
  h.congr hm (by rw [hv])

theorem postNotice_linkSound (b : NoticeBody) (h : LinkSound n s) : LinkSound n (postNotice b s) :=
  ⟨posted_noticesSound h.notices b, h.up, h.kinds, h.accesses⟩

theorem LinkSound.posted {b : NoticeBody} (h : LinkSound n s) (hm : t.mgmt = posted b s.mgmt)
    (hv : t.service = s.service) : LinkSound n t :=
  (postNotice_linkSound b h).of_mgmt hm hv

theorem enterState_linkSound (k : Slot) (x : SlotState) (h : LinkSound n s) : LinkSound n (enterState k x s) :=
  h.posted rfl rfl

/-- A transaction of the sequencer joins the tail of the queue. -/
theorem LinkSound.queued {x : Transaction} (h : LinkSound n s) (hx : x.origin = .sequencer) (hm : t.mgmt = s.mgmt)
    (hw : serviceWork t.service = serviceWork s.service ++ [x]) : LinkSound n t := by
  obtain ⟨hnotices, hup, hkinds, hacc⟩ := h
  refine ⟨hm ▸ hnotices, hm ▸ hup, fun y hy ho => ?_, ?_⟩
  · rw [hw] at hy
    obtain hy | hy := List.mem_append.mp hy
    · exact hkinds y hy ho
    · rw [List.mem_singleton.mp hy, hx] at ho; cases ho
  · rw [hw, accessesOf_append, accessesOf_sequencer hx, List.append_nil, hm]
    exact hacc

theorem enterIdentifying_linkSound (k : Slot) (h : LinkSound n s) : LinkSound n (enterIdentifying k s) :=
  (enterState_linkSound k .identifying h).queued (x := identRead k (s.slot k).epoch) rfl rfl (serviceWork_queue ..)

theorem admissionGate_linkSound (k : Slot) (h : LinkSound n s) : LinkSound n (admissionGate k s) := by
  obtain ⟨-, -, -, hs⟩ | ⟨-, hs⟩ := admissionGate_cases s k <;> rw [hs]
  · exact enterIdentifying_linkSound k h
  · exact h

/-! ## Power -/

theorem startRamp_linkSound (h : LinkSound n s) : LinkSound n (startRamp s) := by
  unfold startRamp; split
  · exact h.posted rfl rfl
  · exact h

theorem grantClaim_linkSound (k : Slot) (h : LinkSound n s) : LinkSound n (grantClaim k s) := h.posted rfl rfl

theorem requestClaim_linkSound (k : Slot) (h : LinkSound n s) : LinkSound n (requestClaim k s) := by
  unfold requestClaim; split
  · exact startRamp_linkSound (grantClaim_linkSound k h)
  · exact h.posted rfl rfl

theorem reevaluateClaims_linkSound (h : LinkSound n s) : LinkSound n (reevaluateClaims s) := by
  refine startRamp_linkSound (eachSlot_keeps (P := LinkSound n) _ (fun k _ u hu => ?_) s h)
  unfold retryClaim; split
  · exact grantClaim_linkSound k hu
  · exact hu

theorem withdrawPower_linkSound (k : Slot) (h : LinkSound n s) : LinkSound n (withdrawPower k s) := by
  have hgiven : LinkSound n (powerGivenUp k s) := h.of_mgmt rfl rfl
  rw [withdrawPower_eq]; split
  · exact reevaluateClaims_linkSound hgiven
  · exact hgiven

/-! ## Replies -/

theorem postReply_mgmt (r : ReplyFrame) (u : State) :
    (postReply r u).mgmt = kickUpstream { u.mgmt with replyQueue := u.mgmt.replyQueue ++ [r] } := rfl

theorem postReturn_mgmt (f : ReturnFrame) (u : State) :
    (postReturn f u).mgmt = kickUpstream { u.mgmt with returnLine := joinReturnLine f u.mgmt.returnLine } := rfl

theorem settlePassThrough_mgmt (p : PassThrough) (a : Answer) (u : State) : (settlePassThrough p a u).mgmt =
    kickUpstream { u.mgmt with
      outstanding := u.mgmt.outstanding.erase p
      replyQueue := u.mgmt.replyQueue ++ [⟨p.tag, p.code, a.result, a.contents⟩] } := rfl

/-- A reply takes a place that was free. -/
theorem postReply_linkSound (r : ReplyFrame) (h : LinkSound n s) : LinkSound (n + 1) (postReply r s) := by
  obtain ⟨hnotices, ⟨hline, hplaces, hfour, -⟩, hkinds, hacc⟩ := h
  refine ⟨noticesSound_sublist (m := s.mgmt) (by rw [postReply_mgmt, kickUpstream_notices]) hnotices, ?_,
    hkinds, by rw [postReply_mgmt, kickUpstream_outstanding]; exact hacc⟩
  refine kickUpstream_upstreamFor hline ?_ hfour
  simp only [placesTaken, List.length_append, List.length_singleton] at hplaces ⊢
  omega

theorem postReturn_linkSound (f : ReturnFrame) (h : LinkSound n s) : LinkSound n (postReturn f s) := by
  obtain ⟨hnotices, ⟨hline, hplaces, hfour, -⟩, hkinds, hacc⟩ := h
  exact ⟨noticesSound_sublist (m := s.mgmt) (by rw [postReturn_mgmt, kickUpstream_notices]) hnotices,
    kickUpstream_upstreamFor (joinReturnLine_length f hline) hplaces hfour,
    hkinds, by rw [postReturn_mgmt, kickUpstream_outstanding]; exact hacc⟩

/-- A deferred reply takes the place of its outstanding access. -/
theorem settlePassThrough_up {p : PassThrough} (hp : p ∈ s.mgmt.outstanding) (a : Answer) (h : UpstreamFor n s.mgmt) :
    UpstreamFor n (settlePassThrough p a s).mgmt := by
  obtain ⟨hline, hplaces, hfour, -⟩ := h
  have hlength := List.length_erase_of_mem hp
  have hpos := List.length_pos_of_mem hp
  rw [settlePassThrough_mgmt]
  refine kickUpstream_upstreamFor hline ?_ ?_
  · simp only [placesTaken, List.length_append, List.length_singleton, hlength] at hplaces ⊢
    omega
  · dsimp only
    rw [hlength]
    omega

/-! ## Withdrawal -/

theorem foldl_settled (answer : Answer) (ps : List PassThrough) (s : State) :
    (ps.foldl (fun u p => settlePassThrough p answer u) s).mgmt.notices = s.mgmt.notices
      ∧ (ps.foldl (fun u p => settlePassThrough p answer u) s).mgmt.outstanding
        = ps.foldl List.erase s.mgmt.outstanding := by
  induction ps generalizing s with
  | nil => exact ⟨rfl, rfl⟩
  | cons p ps ih =>
    obtain ⟨hnotices, hout⟩ := ih (settlePassThrough p answer s)
    rw [List.foldl_cons, hnotices, hout, settlePassThrough_mgmt, kickUpstream_notices, kickUpstream_outstanding]
    exact ⟨rfl, rfl⟩

theorem foldl_settled_up (answer : Answer) (ps : List PassThrough) (hps : ps.Subperm s.mgmt.outstanding)
    (h : UpstreamFor n s.mgmt) : UpstreamFor n (ps.foldl (fun u p => settlePassThrough p answer u) s).mgmt := by
  induction ps generalizing s with
  | nil => exact h
  | cons p ps ih =>
    refine ih ?_ (settlePassThrough_up (hps.subset List.mem_cons_self) answer h)
    rw [settlePassThrough_mgmt, kickUpstream_outstanding]
    simpa using hps.erase p

/-- The accesses of a withdrawn slot are no longer outstanding; the others are (R109). -/
theorem dropPassThroughs_outstanding (k : Slot) (u : State) :
    (dropPassThroughs k u).mgmt.outstanding = u.mgmt.outstanding.filter (·.slot != k) := by
  rw [dropPassThroughs, (foldl_settled ..).2, foldl_erase_filter]
  rfl

theorem dropPassThroughs_notices (k : Slot) (u : State) : (dropPassThroughs k u).mgmt.notices = u.mgmt.notices :=
  (foldl_settled ..).1

/-- A withdrawal takes a slot's accesses from both sides. -/
theorem withdraw_linkSound (k : Slot) (h : LinkSound n s) : LinkSound n (withdraw k s) := by
  let u := (withdrawPower k (s.setAttempt k none)).modSlot k fun r => { r with parkReason := none }
  have hu : LinkSound n u :=
    (withdrawPower_linkSound (s := s.setAttempt k none) k (h.of_mgmt rfl rfl)).of_mgmt rfl rfl
  have huv : u.service = s.service := withdrawPower_service _ k
  obtain ⟨hnotices, hup, -, hacc⟩ := hu
  obtain ⟨v, hv, hvm⟩ : ∃ v : State, withdraw k s = withdrawMaps k (dropPassThroughs k v) ∧ v.mgmt = u.mgmt := ⟨_, rfl, rfl⟩
  have hmgmt : (withdraw k s).mgmt = (dropPassThroughs k v).mgmt := by rw [hv]; rfl
  refine ⟨?_, ?_, ?_, ?_⟩
  · refine noticesSound_sublist (m := u.mgmt) ?_ hnotices
    rw [hmgmt, dropPassThroughs_notices, hvm]
  · rw [hmgmt]
    exact foldl_settled_up _ _ List.filter_sublist.subperm (hvm ▸ hup)
  · intro x hx ho
    rw [serviceWork_withdraw] at hx
    exact h.kinds x (List.mem_of_mem_filter hx) ho
  · rw [serviceWork_withdraw, accessesOf_withdraw, hmgmt, dropPassThroughs_outstanding, hvm, ← huv]
    exact hacc.filter _

theorem reportFault_linkSound (k : Slot) (e : Epoch) (reason : FaultReason) (code : Option Byte) (h : LinkSound n s) :
    LinkSound n (reportFault k e reason code s) := by
  obtain ⟨-, -, hs⟩ | ⟨-, hs⟩ := reportFault_cases s k e reason code <;> rw [hs]
  · exact (withdraw_linkSound k h).posted rfl rfl
  · exact h

theorem faultEntry_linkSound (k : Slot) (reason : FaultReason) (code : Option Byte) (h : LinkSound n s) :
    LinkSound n (faultEntry k reason code s) := (withdraw_linkSound k h).posted rfl rfl

end

end Sys2Proof.Machine
end

section
/-!
PROOF. The head link along a step (O7), continued: the transactions that end, and the commands.
-/
namespace Sys2Proof.Machine

section
variable {n : Nat} {s t : State}

/-! ## What leaves the head link but for notices -/

/-- Notices posted one after another, and nothing else of the head link changed. -/
inductive Noted (s : State) : State → Prop
  | same {t : State} (hm : t.mgmt = s.mgmt) (hv : t.service = s.service) : Noted s t
  | posted {u t : State} (h : Noted s u) (b : NoticeBody) (hm : t.mgmt = posted b u.mgmt) (hv : t.service = u.service) :
      Noted s t

theorem Noted.refl (s : State) : Noted s s := .same rfl rfl

theorem Noted.step {u : State} (h : Noted s u) (hm : t.mgmt = u.mgmt) (hv : t.service = u.service) : Noted s t := by
  cases h with
  | same hm' hv' => exact .same (hm.trans hm') (hv.trans hv')
  | posted h b hm' hv' => exact .posted h b (hm.trans hm') (hv.trans hv')

theorem Noted.trans {u : State} (h : Noted s u) (h' : Noted u t) : Noted s t := by
  induction h' with
  | same hm hv => exact h.step hm hv
  | posted _ b hm hv ih => exact .posted ih b hm hv

theorem Noted.linkSound (h : Noted s t) (hs : LinkSound n s) : LinkSound n t := by
  induction h with
  | same hm hv => exact hs.of_mgmt hm hv
  | posted _ b hm hv ih => exact ih.posted hm hv

theorem noted_eachSlot {act : Slot → State → State} (h : ∀ k u, Noted u (act k u)) (ks : List Slot) (s : State) :
    Noted s (eachSlot ks act s) :=
  eachSlot_keeps (P := Noted s) ks (fun k _ u hu => hu.trans (h k u)) s (.refl s)

theorem lineAsserted_noted (k : Slot) (s : State) : Noted s (lineAsserted k s) := by
  unfold lineAsserted startInsertion
  split
  · dsimp only; split
    · exact .posted (.refl s) _ rfl rfl
    · exact .same rfl rfl
  all_goals exact .same rfl rfl

theorem lineDeasserted_noted (k : Slot) (s : State) : Noted s (lineDeasserted k s) := by
  unfold lineDeasserted
  split
  · dsimp only; split <;> exact .same rfl rfl
  all_goals exact .same rfl rfl

theorem emptySlot_noted (k : Slot) (s : State) : Noted s (emptySlot k s) := by
  unfold emptySlot; split
  · exact .same rfl rfl
  · exact .posted (.refl s) _ rfl rfl

theorem reportPlaced_noted (k : Slot) (s : State) : Noted s (reportPlaced k s) := by
  unfold reportPlaced; split
  · exact .posted (.refl s) _ rfl rfl
  · exact .refl s

theorem reportParked_noted (k : Slot) (reason : ParkReason) (s : State) : Noted s (reportParked k reason s) := by
  unfold reportParked; split
  · exact .same rfl rfl
  · exact .refl s

theorem retryParked_noted (b : BuildState) (k : Slot) : Noted b.state (retryParked b k).state := by
  unfold retryParked; split
  · exact Noted.trans (u := b.state.modMaps fun m => { m with waitList := m.waitList.filter (· != k) })
      (.same rfl rfl) (reportPlaced_noted k _)
  · exact reportParked_noted k _ _

theorem applyAdd_noted (b : BuildState) (k : Slot) : Noted b.state (applyAdd b k).state := by
  unfold applyAdd; split
  · exact reportPlaced_noted k _
  · exact Noted.trans (u := b.state.modMaps fun m => { m with waitList := m.waitList ++ [k] })
      (.same rfl rfl) (reportParked_noted k _ _)

theorem foldl_noted {act : BuildState → Slot → BuildState} (hact : ∀ b k, Noted b.state (act b k).state)
    (ks : List Slot) (b : BuildState) : Noted b.state (ks.foldl act b).state := by
  induction ks generalizing b with
  | nil => exact .refl _
  | cons k ks ih => exact (hact b k).trans (ih _)

theorem offerMap_noted (removed : List Slot) (b : BuildState) : Noted b.state (offerMap removed b) := by
  unfold offerMap
  dsimp only
  split
  · exact .same rfl rfl
  · exact .posted (.refl _) _ rfl rfl

theorem runBuild_noted (s : State) : Noted s (runBuild s) := by
  let start : BuildState :=
    { state := s.modMaps fun m => { m with changes := [] }, entries := keptEntries s.maps, placed := [] }
  have hstart : Noted s start.state := .same rfl rfl
  have hretried := hstart.trans (foldl_noted retryParked_noted s.maps.waitList start)
  have hadded := hretried.trans (foldl_noted applyAdd_noted (addedSlots s.maps.changes) _)
  exact hadded.trans (offerMap_noted (removedSlots s.maps) _)

theorem swapMaps_noted (s : State) : Noted s (swapMaps s) := by
  unfold swapMaps
  split
  · rename_i m _
    refine Noted.posted (u := eachSlot allSlots reportSwapped (s.modMaps fun b => { b with active := m, offered := none }))
      (Noted.trans (u := s.modMaps fun b => { b with active := m, offered := none }) (.same rfl rfl)
        (noted_eachSlot (fun k u => ?_) allSlots _)) (.mapTaken m.generation) (postNotice_mgmt ..) (postNotice_service ..)
    unfold reportSwapped
    split
    · split
      · exact .posted (.refl u) _ rfl rfl
      · exact .refl u
    · exact .refl u
  · exact .refl s

theorem foldl_copyOutput_noted (image : List Byte) (es : List MapEntry) (u : State) :
    Noted u (es.foldl (fun s e => copyOutput image e s) u) := by
  induction es generalizing u with
  | nil => exact .refl u
  | cons e es ih =>
    refine Noted.trans (u := copyOutput image e u) ?_ (ih _)
    unfold copyOutput; split <;> exact .same rfl rfl

theorem serveFrame_noted (f : HeldFrame) (s : State) : Noted s (serveFrame f s) := by
  refine Noted.step (u := (addressedEntries (match f.frameClass with
    | .offered => swapMaps s
    | .active => s)).foldl (fun s e => copyOutput f.output e s) (match f.frameClass with
    | .offered => swapMaps s
    | .active => s)) (Noted.trans ?_ (foldl_copyOutput_noted ..)) rfl rfl
  split
  · exact swapMaps_noted s
  · exact .refl s

theorem takeResponse_noted (k : Slot) (data : List Byte) (diag : Bool) (s : State) :
    Noted s (takeResponse k data diag s) := by
  unfold takeResponse; dsimp only; split
  · exact .posted (.refl s) _ rfl rfl
  · exact .same rfl rfl

/-! ## Withdrawals and accesses -/

theorem stopSlot_linkSound (k : Slot) (h : LinkSound n s) : LinkSound n (stopSlot k s) :=
  (withdraw_linkSound k h).posted rfl rfl

theorem cardGone_linkSound (k : Slot) (h : LinkSound n s) : LinkSound n (cardGone k s) := by
  unfold cardGone
  split
  · exact withdraw_linkSound k ((emptySlot_noted k s).linkSound h)
  · exact withdraw_linkSound k (h.of_mgmt rfl rfl)

theorem accountSlot_linkSound (limit : Nat) (p : Addressed × WindowOutcome) (h : LinkSound n s) :
    LinkSound n (accountSlot limit s p) := by
  have hmissed : LinkSound n (missCounted p.1.slot s) := h.of_mgmt rfl rfl
  obtain hs | ⟨-, -, ⟨data, diag, -, hs⟩ | ⟨-, -, hs⟩ | ⟨-, -, hs⟩⟩ := accountSlot_cases (s := s) limit p.1 p.2 <;> rw [hs]
  · exact h
  · exact (takeResponse_noted ..).linkSound h
  · exact hmissed
  · exact faultEntry_linkSound _ _ _ hmissed

theorem accounted_linkSound (limit : Nat) (ps : List (Addressed × WindowOutcome)) (h : LinkSound n s) :
    LinkSound n (ps.foldl (accountSlot limit) s) := by
  induction ps generalizing s with
  | nil => exact h
  | cons p ps ih => exact ih (accountSlot_linkSound limit p h)

theorem setMode_linkSound (k : Slot) (m : Mode) (h : LinkSound n s) : LinkSound n (setMode k m s) := by
  unfold setMode; dsimp only; split
  · exact h
  · split
    · exact admissionGate_linkSound k (h.of_mgmt rfl rfl)
    · exact h.of_mgmt rfl rfl

theorem cardArrived_linkSound (k : Slot) (e : Epoch) (h : LinkSound n s) : LinkSound n (cardArrived k e s) := by
  unfold cardArrived
  split
  · dsimp only; split
    · exact admissionGate_linkSound k (h.posted rfl rfl)
    · exact h.of_mgmt rfl rfl
  · exact h

theorem putSettings_linkSound (r : RackSettings) (h : LinkSound n s) : LinkSound n (putSettings r s) := by
  have hset : LinkSound n (s.modMgmt fun m => { m with settings := r.clamped }) := ⟨h.notices, h.up, h.kinds, h.accesses⟩
  have hbudget : LinkSound n (handBudget s.settings (s.modMgmt fun m => { m with settings := r.clamped })) := by
    unfold handBudget; split
    · exact reevaluateClaims_linkSound hset
    · exact hset
  have hadmission : LinkSound n (handAdmission s.settings
      (handBudget s.settings (s.modMgmt fun m => { m with settings := r.clamped }))) := by
    unfold handAdmission; split
    · exact eachSlot_keeps (P := LinkSound n) allSlots (fun k _ u hu => admissionGate_linkSound k hu) _ hbudget
    · exact hbudget
  rw [putSettings]
  unfold handTiming
  split
  · exact hadmission.of_mgmt rfl rfl
  · exact hadmission

theorem noticesSound_nil (m : Management) (h : m.notices = []) : NoticesSound m :=
  noticesSound_of_subjects (by rw [h]; exact List.nodup_nil) fun x hx => by rw [h] at hx; cases hx

theorem modCounters_linkSound (f : LinkCounters → LinkCounters) (h : LinkSound n s) : LinkSound n (modCounters f s) :=
  ⟨h.notices, h.up, h.kinds, h.accesses⟩

theorem frameTaken_linkSound (f : HeldFrame) (g : Nat) (long : Bool) (h : LinkSound n s) :
    LinkSound n (frameTaken f g long s) := by
  have htaken : LinkSound n (s.modCycle (acceptEngine s.settings f.cycleCount)) := h.of_mgmt rfl rfl
  have hresumed : LinkSound n (if s.cycle.rackState = .safe then
      postNotice (.rackResumed g) (s.modCycle (acceptEngine s.settings f.cycleCount))
    else s.modCycle (acceptEngine s.settings f.cycleCount)) := by
    split
    · exact postNotice_linkSound _ htaken
    · exact htaken
  cases long
  · exact hresumed
  · exact modCounters_linkSound (fun c => { c with long := countUp c.long }) hresumed

/-- A download created has its first transaction in the queue (R100). -/
theorem createDownload_linkSound (k : Slot) (h : LinkSound n s) : LinkSound n (createDownload k s) :=
  (h.congr (t := s.setDownload k (some ⟨(s.slot k).epoch, (s.slot k).profileIndex.getD 0,
    (downloadNext k (s.slot k).epoch (s.profile ((s.slot k).profileIndex.getD 0)) 1).1,
    (s.profile ((s.slot k).profileIndex.getD 0)).configTimeout⟩)) rfl rfl).queued
    (downloadNext_awaited k (s.slot k).epoch (s.profile ((s.slot k).profileIndex.getD 0)) 1 0 0).1 rfl
    (serviceWork_queue ..)

/-- With nothing queued, waiting or outstanding the head link stands. -/
theorem linkSound_of_empty (hn : s.mgmt.notices = []) (hline : s.mgmt.returnLine = []) (hq : s.mgmt.replyQueue = [])
    (ho : s.mgmt.outstanding = []) (hplaces : placesTaken s.mgmt ≤ n) (hw : serviceWork s.service = []) :
    LinkSound n s := by
  refine ⟨noticesSound_nil _ hn, ⟨by rw [hline]; exact Nat.zero_le _, hplaces, by rw [ho]; exact Nat.zero_le _,
    fun _ => ⟨hline, hq⟩⟩, fun x hx => ?_, by rw [hw, ho]; exact .refl _⟩
  rw [hw] at hx; cases hx

theorem restartAll_linkSound (h : LinkSound n s) : LinkSound n (restartAll s) := by
  rw [restartAll]
  refine eachSlot_keeps (P := LinkSound n) allSlots (fun k _ u hu => admissionGate_linkSound k hu) _
    ((noted_eachSlot (fun k u => ?_) allSlots _).linkSound ?_)
  · unfold resumeInsertion; split
    · exact lineAsserted_noted k u
    · exact .refl u
  · refine linkSound_of_empty rfl rfl rfl rfl (Nat.le_trans ?_ h.up.2.1) rfl
    show 0 + replyOnWire s.mgmt.transmitter + 0 ≤ placesTaken s.mgmt
    unfold placesTaken
    omega

theorem coldReset_linkSound (s : State) : LinkSound n (eachSlot allSlots redetect (coldState s)) := by
  refine (noted_eachSlot (fun k u => ?_) allSlots _).linkSound (linkSound_of_empty rfl rfl rfl rfl (Nat.zero_le n) rfl)
  unfold redetect; split
  · exact lineAsserted_noted k u
  · exact .refl u

/-! ## Transactions that end -/

theorem IdentEnd.keeps_linkSound {x : Transaction} {o : SegmentOutcome} (h : LinkSound n s) (hd : IdentEnd x o s t) :
    LinkSound n t := by
  cases hd with
  | discarded => exact h
  | retried a => exact h.queued (x := identRead x.slot a.epoch) rfl rfl (serviceWork_queue ..)
  | timedOut => exact reportFault_linkSound _ _ _ _ (h.of_mgmt rfl rfl)
  | faulted => exact reportFault_linkSound _ _ _ _ (h.of_mgmt rfl rfl)
  | matched => exact requestClaim_linkSound _ (h.of_mgmt rfl rfl)
  | stale => exact h.of_mgmt rfl rfl

theorem DownloadEnd.keeps_linkSound {x : Transaction} {c : Completion} (h : LinkSound n s) (hd : DownloadEnd x c s t) :
    LinkSound n t := by
  cases hd with
  | discarded => exact h
  | wentOn d _ _ _ _ m _ =>
    exact h.queued (downloadNext_awaited x.slot d.epoch (s.profile d.profile) (m + 1) 0 0).1 rfl (serviceWork_queue ..)
  | complete =>
    exact (enterState_linkSound x.slot .mapWait (h.congr (t := s.setDownload x.slot none) rfl rfl)).of_mgmt rfl rfl
  | stale => exact h.congr rfl rfl
  | failed => exact reportFault_linkSound _ _ _ _ (h.congr rfl rfl)

theorem accesses_of_flight {x : Transaction} (hx : s.service.inFlight = some x) : accessesOf (serviceWork s.service)
    = accessesOf [x] ++ accessesOf (serviceWork (segmentOver s).service) := by
  rw [serviceWork_of_flight hx, accessesOf_cons]

/-- The end of a transaction of the sequencer takes no access with it. -/
theorem segmentOver_linkSound (h : LinkSound n s) {x : Transaction} (hx : s.service.inFlight = some x)
    (ho : x.origin = .sequencer) : LinkSound n (segmentOver s) := by
  obtain ⟨hnotices, hup, hkinds, hacc⟩ := h
  refine ⟨hnotices, hup, segmentOver_kinds hkinds hx, ?_⟩
  rw [accesses_of_flight hx, accessesOf_sequencer ho] at hacc
  exact hacc

theorem LinkSound.sequencer_of_identRead (h : LinkSound n s) {x : Transaction} (hx : s.service.inFlight = some x)
    (hk : x.kind = .identRead) : x.origin = .sequencer := by
  cases ho : x.origin with
  | sequencer => rfl
  | passThrough =>
    have hmem : x ∈ serviceWork s.service := by rw [serviceWork_of_flight hx]; exact List.mem_cons_self
    obtain hr | hw := h.kinds x hmem ho
    · rw [hk] at hr; cases hr
    · rw [hk] at hw; cases hw

/-- A pass-through that ends takes its access with it, and its reply takes the place (R108). -/
theorem passThroughCompletion_linkSound (h : LinkSound n s) {x : Transaction} (hx : s.service.inFlight = some x)
    (ho : x.origin = .passThrough) (c : Completion) : LinkSound n (passThroughCompletion x c (segmentOver s)) := by
  obtain ⟨hnotices, hup, hkinds, hacc⟩ := h
  rw [accesses_of_flight hx, accessesOf_passThrough ho, List.singleton_append] at hacc
  have hmem : passThroughOf x ∈ (segmentOver s).mgmt.outstanding := hacc.subset List.mem_cons_self
  rw [passThroughCompletion, if_pos hmem]
  refine ⟨noticesSound_sublist (m := s.mgmt) ?_ hnotices, settlePassThrough_up hmem _ hup, segmentOver_kinds hkinds hx, ?_⟩
  · rw [settlePassThrough_mgmt, kickUpstream_notices]
    exact .refl _
  · rw [settlePassThrough_mgmt, kickUpstream_outstanding]
    have hrest := hacc.erase (passThroughOf x)
    rwa [List.erase_cons_head] at hrest

theorem completed_linkSound (h : LinkSound n s) {x : Transaction} (hx : s.service.inFlight = some x) (c : Completion) :
    LinkSound n (completeTransaction x c (segmentOver s)) := by
  cases ho : x.origin with
  | sequencer =>
    rw [completeTransaction_of_sequencer c _ ho]
    exact (downloadCompletion_end x c (segmentOver s)).keeps_linkSound (segmentOver_linkSound h hx ho)
  | passThrough =>
    rw [completeTransaction_of_passThrough c _ ho]
    exact passThroughCompletion_linkSound h hx ho c

/-- The transaction in flight progresses, and stays in flight or returns to the queue. -/
theorem progressed_linkSound (h : LinkSound n s) {x x' : Transaction} (hx : s.service.inFlight = some x)
    (hsame : x'.origin = x.origin ∧ x'.kind = x.kind ∧ passThroughOf x' = passThroughOf x) (hm : t.mgmt = s.mgmt)
    (hwork : (serviceWork t.service).Perm (x' :: serviceWork (segmentOver s).service)) : LinkSound n t := by
  obtain ⟨hnotices, hup, hkinds, hacc⟩ := h
  obtain ⟨horigin, hkind, haccess⟩ := hsame
  refine ⟨hm ▸ hnotices, hm ▸ hup, fun y hy hyo => ?_, ?_⟩
  · obtain rfl | hy := List.mem_cons.mp (hwork.subset hy)
    · rw [hkind]
      exact hkinds x (by rw [serviceWork_of_flight hx]; exact List.mem_cons_self) (horigin ▸ hyo)
    · exact segmentOver_kinds hkinds hx y hy hyo
  · have hperm : (accessesOf (serviceWork t.service)).Perm (accessesOf (x' :: serviceWork (segmentOver s).service)) :=
      (hwork.filter _).map _
    have hone : accessesOf [x'] = accessesOf [x] := by
      cases ho : x.origin with
      | sequencer => rw [accessesOf_sequencer ho, accessesOf_sequencer (horigin.trans ho)]
      | passThrough => rw [accessesOf_passThrough ho, accessesOf_passThrough (horigin.trans ho), haccess]
    rw [accessesOf_cons, hone, ← accesses_of_flight hx] at hperm
    rw [hm]
    exact hperm.trans hacc

/-! ## The commands -/

theorem Served.keeps_linkSound (h : LinkSound n s) (hd : Served s t) : LinkSound n t := by
  cases hd with
  | noticesFetched m => exact ⟨noticesSound_sublist (m := s.mgmt) (List.drop_sublist ..) h.notices, h.up, h.kinds, h.accesses⟩
  | countersCleared => exact ⟨h.notices, h.up, h.kinds, h.accesses⟩
  | modeSet k m => exact setMode_linkSound k m h
  | started k _ _ => exact enterIdentifying_linkSound k h
  | stopped k _ => exact stopSlot_linkSound k h
  | faultedCleared k _ => exact admissionGate_linkSound k (h.posted rfl rfl)
  | quarantinedCleared k _ => exact h.posted rfl rfl
  | profilesPurged => rw [foldl_setProfile_frame]; exact h.of_mgmt rfl rfl
  | settingsPut args r _ _ => exact putSettings_linkSound r h
  | restarted => exact restartAll_linkSound h
  | _ => exact h.of_mgmt rfl rfl

theorem Effect.keeps_linkSound (h : LinkSound 8 s) (hd : Effect s t) : LinkSound 8 t := by
  cases hd with
  | served hd => exact hd.keeps_linkSound h
  | counted f => exact ⟨h.notices, h.up, h.kinds, h.accesses⟩
  | frameRefused f r =>
    obtain ⟨hnotices, hup, hkinds, hacc⟩ := postReturn_linkSound r h
    exact ⟨hnotices, hup, hkinds, hacc⟩
  | sentOn _ =>
    obtain ⟨hnotices, ⟨hline, hplaces, hfour, -⟩, hkinds, hacc⟩ := h
    refine ⟨noticesSound_sublist (m := s.mgmt) ?_ hnotices, startUpstream_upstreamFor hline hplaces hfour, hkinds, ?_⟩
    · rw [State.modMgmt_mgmt, startUpstream_notices]
    · rw [State.modMgmt_mgmt, startUpstream_outstanding]; exact hacc
  | lineAsserted k => exact (lineAsserted_noted k s).linkSound h
  | lineDeasserted k => exact (lineDeasserted_noted k s).linkSound h
  | inserted k d e _ => exact cardArrived_linkSound k e (h.of_mgmt rfl rfl)
  | removed k d _ => exact cardGone_linkSound k (h.of_mgmt rfl rfl)
  | segmentStarted x q _ hx =>
    refine h.congr rfl ?_
    rw [serviceWork_of_next hx]
    rfl
  | segmentTimedOut => exact h.congr rfl rfl
  | segmentFreed => exact h.congr rfl rfl
  | segmentKept g x hrun _ p bytes r =>
    exact progressed_linkSound h hrun.2.2 (x' := { x with position := p, gathered := bytes, repeatUsed := r })
      ⟨rfl, rfl, rfl⟩ rfl (.refl _)
  | segmentReturned g x hrun _ =>
    refine progressed_linkSound h hrun.2.2 (x' := { x with repeatUsed := false }) ⟨rfl, rfl, rfl⟩ rfl ?_
    have hwork : serviceWork (queueTransaction { x with repeatUsed := false } (segmentOver s)).service
        = serviceWork (segmentOver s).service ++ [{ x with repeatUsed := false }] := serviceWork_queue ..
    rw [hwork]
    exact List.perm_append_singleton ..
  | identCompleted g x hrun hk o =>
    exact (identCompletion_end x o (segmentOver s)).keeps_linkSound
      (segmentOver_linkSound h hrun.2.2 (h.sequencer_of_identRead hrun.2.2 hk))
  | completed g x hrun _ c => exact completed_linkSound h hrun.2.2 c
  | rampGood k _ _ =>
    have hup : LinkSound 8 (s.modPow k fun r => { r with rampTimer := none, monitoring := true, filter := false }) :=
      h.of_mgmt rfl rfl
    rw [rampGood_eq]
    exact startRamp_linkSound ((createDownload_linkSound k (enterState_linkSound k .configuring hup)).of_mgmt rfl rfl)
  | rampBad k _ _ =>
    unfold Machine.rampBad; split
    · exact reportFault_linkSound _ _ _ _ h
    · exact h.of_mgmt rfl rfl
  | rampDiscarded k _ _ => exact startRamp_linkSound (h.of_mgmt rfl rfl)
  | powerLost k _ c _ => exact reportFault_linkSound _ _ _ _ (h.of_mgmt rfl rfl)
  | configTimedOut k d _ => exact reportFault_linkSound _ _ _ _ (h.congr rfl rfl)
  | built _ => exact (runBuild_noted s).linkSound h
  | frameAccepted _ f g long _ =>
    have htaken := frameTaken_linkSound f g long h
    rw [acceptFrame_eq]
    split
    · exact (serveFrame_noted f _).linkSound htaken
    · exact htaken.of_mgmt rfl rfl
  | frameServed f _ _ => exact (serveFrame_noted f _).linkSound (h.of_mgmt rfl rfl)
  | accounted x _ _ _ => exact accounted_linkSound _ _ (h.of_mgmt rfl rfl)
  | watchdogExpired _ => exact h.posted rfl rfl
  | accessAccepted k p x _ ho hp hx hk hxp =>
    obtain ⟨hnotices, ⟨hline, -, -, hidle⟩, hkinds, hacc⟩ := h
    refine ⟨hnotices, ⟨hline, ?_, ?_, hidle⟩, passThroughKinds_queue x hkinds fun _ => hk, ?_⟩
    · show s.mgmt.replyQueue.length + replyOnWire s.mgmt.transmitter + (s.mgmt.outstanding ++ [p]).length ≤ 8
      rw [List.length_append, List.length_singleton]
      unfold placesTaken at hp
      omega
    · show (s.mgmt.outstanding ++ [p]).length ≤ 4
      rw [List.length_append, List.length_singleton]
      omega
    · have hwork : serviceWork (queueTransaction x (s.modMgmt fun m =>
          { m with outstanding := m.outstanding ++ [p] })).service = serviceWork s.service ++ [x] := serviceWork_queue ..
      rw [hwork, accessesOf_append, accessesOf_passThrough hx, hxp]
      exact hacc.append_right [p]
  | _ => exact h.of_mgmt rfl rfl

theorem Done.keeps_linkSound (h : LinkSound 8 s) (hd : Done s t) : LinkSound 8 t := by
  obtain ⟨u, he, hposted⟩ := hd
  cases hposted with
  | none => exact he.keeps_linkSound h
  | reply r hserved hplace =>
    have hfree : LinkSound 7 s := by
      obtain ⟨hnotices, ⟨hline, -, hup⟩, hkinds, hacc⟩ := h
      exact ⟨hnotices, ⟨hline, Nat.le_of_lt_succ hplace, hup⟩, hkinds, hacc⟩
    exact postReply_linkSound r (hserved.keeps_linkSound hfree)
  | returned r => exact postReturn_linkSound r (he.keeps_linkSound h)

end

/-- Settles O7: with a place free before a request its reply takes one, and a deferred reply takes its access's. -/
theorem stepKeepsHeadLinkSound : Obligations.StepKeepsHeadLinkSound := fun s t hs hstep =>
  (headLinkSound_iff t).mpr (step_keeps (P := LinkSound 8) (fun _ _ h => h.of_mgmt rfl rfl)
    (fun u _ => coldReset_linkSound u) (fun _ _ h hd => hd.keeps_linkSound h) ((headLinkSound_iff s).mp hs) hstep)

end Sys2Proof.Machine
end

section
/-!
PROOF. The Cycle Engine along a step (O8): most commands leave it, start no segment and bring no slot into RUNNING; the
others each keep its timers, the backplane's one user and the miss counts.
-/
namespace Sys2Proof.Machine

section
variable {s t : State}

/-! ## The commands that the Cycle Engine takes no part in -/

/-- A slot record that has not entered RUNNING. -/
def NotEntered (r r' : SlotRecord) : Prop := r'.state = .running → r.state = .running ∧ r'.epoch = r.epoch

theorem NotEntered.of_eq {r r' : SlotRecord} (h : r' = r) : NotEntered r r' := fun hx => by
  rw [h] at hx ⊢
  exact ⟨hx, rfl⟩

theorem NotEntered.of_state {r r' : SlotRecord} (h : r'.state ≠ .running) : NotEntered r r' := fun hx => absurd hx h

/-- The Cycle Engine stands, no segment has started, and no slot has entered RUNNING. -/
structure Quiet (s t : State) : Prop where
  cycle : t.cycle = s.cycle
  segment : s.service.segment = none → t.service.segment = none
  slots : ∀ k, NotEntered (s.slot k) (t.slot k)

theorem Quiet.refl (s : State) : Quiet s s := ⟨rfl, fun h => h, fun _ => .of_eq rfl⟩

theorem Quiet.trans {u : State} (h : Quiet s u) (h' : Quiet u t) : Quiet s t := by
  refine ⟨h'.cycle.trans h.cycle, fun hs => h'.segment (h.segment hs), fun k hx => ?_⟩
  obtain ⟨hu, he'⟩ := h'.slots k hx
  obtain ⟨hs, he⟩ := h.slots k hu
  exact ⟨hs, he'.trans he⟩

/-- The change of one slot record alone. -/
theorem Quiet.of_slot {k : Slot} (hc : t.cycle = s.cycle) (hv : t.service.segment = s.service.segment)
    (hk : NotEntered (s.slot k) (t.slot k)) (hs : ∀ j, j ≠ k → t.slot j = s.slot j) : Quiet s t := by
  refine ⟨hc, fun h => hv.trans h, fun j => ?_⟩
  by_cases hj : j = k
  · rw [hj]; exact hk
  · exact .of_eq (hs j hj)

theorem Quiet.of_slots (hc : t.cycle = s.cycle) (hv : t.service.segment = s.service.segment) (hs : t.slots = s.slots) :
    Quiet s t := ⟨hc, fun h => hv.trans h, fun k => .of_eq (slot_of_slots hs k)⟩

theorem enterState_quiet (k : Slot) {x : SlotState} (hx : x ≠ .running) (s : State) : Quiet s (enterState k x s) :=
  .of_slot (k := k) rfl rfl (.of_state (by rw [enterState_slot_same]; exact hx)) fun _ hj => enterState_slot_of_ne _ hj _

theorem modSlot_quiet (k : Slot) {f : SlotRecord → SlotRecord} (hf : ∀ r, NotEntered r (f r)) (s : State) :
    Quiet s (s.modSlot k f) :=
  .of_slot (k := k) rfl rfl (by rw [State.modSlot_slot_same]; exact hf _) fun _ hj => State.modSlot_slot_of_ne _ hj _

theorem eachSlot_quiet {act : Slot → State → State} (h : ∀ k u, Quiet u (act k u)) (ks : List Slot) (s : State) :
    Quiet s (eachSlot ks act s) :=
  eachSlot_keeps (P := Quiet s) ks (fun k _ u hu => hu.trans (h k u)) s (.refl s)

theorem admissionGate_quiet (k : Slot) (s : State) : Quiet s (admissionGate k s) := by
  obtain ⟨-, -, -, hs⟩ | ⟨-, hs⟩ := admissionGate_cases s k <;> rw [hs]
  · exact (enterState_quiet k (by decide) s).trans (.of_slots rfl rfl rfl)
  · exact .refl s

theorem startRamp_quiet (s : State) : Quiet s (startRamp s) := by
  refine ⟨startRamp_cycle s, fun h => by rw [startRamp_service]; exact h, fun j => ?_⟩
  obtain hs | ⟨-, hs⟩ := startRamp_slot (s := s) j <;> rw [hs]
  · exact .of_eq rfl
  · exact .of_state (SlotState.noConfusion : SlotState.ramping ≠ .running)

theorem PowerMove.notEntered {j : Slot} (h : PowerMove s t j) : NotEntered (s.slot j) (t.slot j) := by
  obtain hs | ⟨-, x, rfl | rfl, hs⟩ | ⟨-, hs⟩ := h <;> rw [hs]
  · exact .of_eq rfl
  · exact .of_state (SlotState.noConfusion : SlotState.rampQueued ≠ .running)
  · exact .of_state (SlotState.noConfusion : SlotState.ramping ≠ .running)
  · exact .of_state (SlotState.noConfusion : SlotState.ramping ≠ .running)

theorem reevaluateClaims_quiet (s : State) : Quiet s (reevaluateClaims s) :=
  ⟨reevaluateClaims_cycle s, fun h => by rw [reevaluateClaims_service]; exact h,
    fun j => (reevaluateClaims_slot j).notEntered⟩

theorem requestClaim_quiet (k : Slot) (s : State) : Quiet s (requestClaim k s) := by
  unfold requestClaim; split
  · refine Quiet.trans (u := grantClaim k s) (.of_slot (k := k) rfl rfl (.of_state ?_) fun j hj => ?_) (startRamp_quiet _)
    · rw [grantClaim_slot, if_pos rfl]; exact (SlotState.noConfusion : SlotState.rampQueued ≠ .running)
    · rw [grantClaim_slot, if_neg hj]
  · refine .of_slot (k := k) rfl rfl (.of_state ?_) fun j hj => ?_
    · rw [parkClaim, enterState_slot_same]; exact (SlotState.noConfusion : SlotState.powerWait ≠ .running)
    · rw [parkClaim, enterState_slot_of_ne _ hj, State.modSlot_slot_of_ne _ hj, State.modPower_slot]

theorem withdraw_segment {k : Slot} (h : s.service.segment = none) : (withdraw k s).service.segment = none := by
  rw [withdraw_service, withdrawService_service, h]
  dsimp only
  split <;> rfl

theorem withdraw_quiet (k : Slot) (s : State) : Quiet s (withdraw k s) := by
  refine ⟨withdraw_cycle s k, withdraw_segment, fun j => ?_⟩
  by_cases hj : j = k
  · rw [hj, withdraw_slot_same]
    exact fun hx => ⟨hx, rfl⟩
  · exact (withdraw_slot_of_ne hj).notEntered

theorem faultedRecord_state_ne (reason : FaultReason) (code : Option Byte) (r : SlotRecord) :
    (faultedRecord reason code r).state ≠ .running := by
  unfold faultedRecord
  dsimp only
  split <;> exact SlotState.noConfusion

theorem faultEntry_quiet (k : Slot) (reason : FaultReason) (code : Option Byte) (s : State) :
    Quiet s (faultEntry k reason code s) := by
  refine ⟨withdraw_cycle s k, withdraw_segment, fun j => ?_⟩
  by_cases hj : j = k
  · rw [hj, faultEntry_slot_same]; exact .of_state (faultedRecord_state_ne reason code _)
  · exact (faultEntry_slot_of_ne hj reason code).notEntered

theorem reportFault_quiet (k : Slot) (e : Epoch) (reason : FaultReason) (code : Option Byte) (s : State) :
    Quiet s (reportFault k e reason code s) := by
  obtain ⟨-, -, hs⟩ | ⟨-, hs⟩ := reportFault_cases s k e reason code <;> rw [hs]
  · exact faultEntry_quiet k reason code s
  · exact .refl s

theorem lineAsserted_quiet (k : Slot) (s : State) : Quiet s (lineAsserted k s) := by
  have hcycle : (lineAsserted k s).cycle = s.cycle := by
    unfold lineAsserted; split
    · dsimp only; split <;> rfl
    all_goals rfl
  have hservice : (lineAsserted k s).service = s.service := congrArg (·.2) (lineAsserted_tasks k s)
  refine ⟨hcycle, fun h => by rw [hservice]; exact h, fun j => ?_⟩
  obtain hs | ⟨-, -, -, hs⟩ := lineAsserted_slot (s := s) j k <;> rw [hs]
  · exact .of_eq rfl
  · exact .of_state (SlotState.noConfusion : SlotState.settling ≠ .running)

theorem lineDeasserted_quiet (k : Slot) (s : State) : Quiet s (lineDeasserted k s) := by
  have hcycle : (lineDeasserted k s).cycle = s.cycle := by
    unfold lineDeasserted; split
    · dsimp only; split <;> rfl
    all_goals rfl
  have hservice : (lineDeasserted k s).service = s.service := congrArg (·.2) (lineDeasserted_tasks k s)
  refine ⟨hcycle, fun h => by rw [hservice]; exact h, fun j => ?_⟩
  obtain hs | ⟨-, -, -, hs⟩ := lineDeasserted_slot (s := s) j k <;> rw [hs]
  · exact .of_eq rfl
  · exact .of_state (SlotState.noConfusion : SlotState.empty ≠ .running)

theorem cardArrived_quiet (k : Slot) (e : Epoch) (s : State) : Quiet s (cardArrived k e s) := by
  unfold cardArrived
  split
  · rename_i h
    obtain ⟨hx, -⟩ := h
    have harrived : Quiet s ((s.modSlot k fun r => { r with epoch := r.epoch + 1, cardPresent := true }).modPres k fun r =>
        { r with auxSupply := true }) := by
      refine .of_slot (k := k) rfl rfl (.of_state ?_) fun j hj => ?_
      · rw [State.modPres_slot, State.modSlot_slot_same]
        obtain hx | hx := hx <;> simp [hx]
      · rw [State.modPres_slot, State.modSlot_slot_of_ne _ hj]
    dsimp only
    split
    · exact (harrived.trans (enterState_quiet k (by decide) _)).trans
        (admissionGate_quiet k _)
    · exact harrived
  · exact .refl s

theorem cardGone_quiet (k : Slot) (s : State) : Quiet s (cardGone k s) := by
  unfold cardGone
  split
  · refine Quiet.trans (u := emptySlot k s) (.of_slot (k := k) ?_ ?_ ?_ fun j hj => ?_) (withdraw_quiet k _)
    · unfold emptySlot; split <;> rfl
    · unfold emptySlot; split <;> rfl
    · rw [emptySlot_slot, if_pos rfl]
      split
      · rename_i hq; exact .of_state (by simp [hq])
      · exact .of_state (SlotState.noConfusion : SlotState.empty ≠ .running)
    · rw [emptySlot_slot, if_neg hj]
  · exact withdraw_quiet k _

theorem IdentEnd.quiet {x : Transaction} {o : SegmentOutcome} (h : IdentEnd x o s t) : Quiet s t := by
  have htaken : ∀ c, Quiet s (identityTaken x.slot c s) := fun c =>
    (modSlot_quiet x.slot (f := fun r => { r with identity := some c }) (fun r hx => ⟨hx, rfl⟩) s).trans
      (.of_slots rfl rfl rfl)
  cases h with
  | discarded => exact .refl s
  | retried => exact .of_slots rfl rfl rfl
  | timedOut => exact Quiet.trans (u := s.setAttempt x.slot none) (.of_slots rfl rfl rfl) (reportFault_quiet ..)
  | faulted _ _ _ c => exact (htaken c).trans (reportFault_quiet ..)
  | matched _ _ _ c _ _ p =>
    exact ((htaken c).trans (modSlot_quiet x.slot (f := fun r => { r with profileIndex := some p })
      (fun r hx => ⟨hx, rfl⟩) _)).trans (requestClaim_quiet ..)
  | stale _ _ _ c => exact htaken c

theorem DownloadEnd.quiet {x : Transaction} {c : Completion} (h : DownloadEnd x c s t) : Quiet s t := by
  have hended : Quiet s (s.setDownload x.slot none) := .of_slots rfl rfl rfl
  cases h with
  | discarded => exact .refl s
  | wentOn => exact .of_slots rfl rfl rfl
  | complete =>
    exact (hended.trans (enterState_quiet x.slot (by decide) _)).trans
      (.of_slots rfl rfl rfl)
  | stale => exact hended
  | failed => exact hended.trans (reportFault_quiet ..)

theorem completeTransaction_quiet (x : Transaction) (c : Completion) (s : State) : Quiet s (completeTransaction x c s) := by
  cases ho : x.origin with
  | sequencer => rw [completeTransaction_of_sequencer c _ ho]; exact (downloadCompletion_end x c s).quiet
  | passThrough =>
    rw [completeTransaction_of_passThrough c _ ho]
    unfold passThroughCompletion
    split <;> exact .of_slots rfl rfl rfl

theorem segmentOver_quiet (s : State) : Quiet s (segmentOver s) := ⟨rfl, fun _ => rfl, fun _ => .of_eq rfl⟩

theorem runBuild_quiet (s : State) : Quiet s (runBuild s) := by
  have hcycle : (runBuild s).cycle = s.cycle := by
    have hplaced : ∀ k v, (reportPlaced k v).cycle = v.cycle := by
      intro k v; unfold reportPlaced; split <;> rfl
    have hparked : ∀ k r v, (reportParked k r v).cycle = v.cycle := by
      intro k r v; unfold reportParked; split <;> rfl
    have hoffer : ∀ removed b, (offerMap removed b).cycle = b.state.cycle := by
      intro removed b; unfold offerMap; dsimp only; split <;> rfl
    rw [runBuild, hoffer, foldl_build_same State.cycle applyAdd, foldl_build_same State.cycle retryParked]
    · rfl
    · intro b k; unfold retryParked; split
      · exact hplaced k _
      · exact hparked k _ _
    · intro b k; unfold applyAdd; split
      · exact hplaced k _
      · exact hparked k _ _
  have hservice : (runBuild s).service = s.service := congrArg (·.2) (runBuild_tasks s)
  refine ⟨hcycle, fun h => by rw [hservice]; exact h, fun j => ?_⟩
  obtain hs | ⟨-, ⟨_, -, hs⟩ | hs⟩ := runBuild_slot (s := s) j <;> rw [hs]
  · exact .of_eq rfl
  · exact fun hx => ⟨hx, rfl⟩
  · exact .of_state (SlotState.noConfusion : SlotState.mapPending ≠ .running)

theorem setMode_quiet (k : Slot) (m : Mode) (s : State) : Quiet s (setMode k m s) := by
  have hset : Quiet s (s.modSlot k fun r => { r with mode := m }) := modSlot_quiet k (f := fun r => { r with mode := m }) (fun r hx => ⟨hx, rfl⟩) s
  unfold setMode
  dsimp only
  split
  · exact .refl s
  · split
    · exact hset.trans (admissionGate_quiet k _)
    · exact hset

theorem stopSlot_quiet (k : Slot) (s : State) : Quiet s (stopSlot k s) :=
  ((withdraw_quiet k s).trans (modSlot_quiet k
    (f := fun r => { r with mode := .manual, profileIndex := none, parkReason := none }) (fun r hx => ⟨hx, rfl⟩) _)).trans
    (enterState_quiet k (by decide) _)

theorem putSettings_quiet (r : RackSettings) (s : State) : Quiet s (putSettings r s) := by
  have hbudget : ∀ b u, Quiet u (handBudget b u) := fun b u => by
    unfold handBudget; split
    · exact reevaluateClaims_quiet u
    · exact .refl u
  have hadmission : ∀ b u, Quiet u (handAdmission b u) := fun b u => by
    unfold handAdmission; split
    · exact eachSlot_quiet admissionGate_quiet _ u
    · exact .refl u
  have htiming : ∀ b u, Quiet u (handTiming b u) := fun b u => by
    unfold handTiming; split
    · exact .of_slots rfl rfl rfl
    · exact .refl u
  have hset : Quiet s (s.modMgmt fun m => { m with settings := r.clamped }) := .of_slots rfl rfl rfl
  exact ((hset.trans (hbudget _ _)).trans (hadmission _ _)).trans (htiming _ _)

/-- The changes that the Cycle Engine has a part in, and the start of a segment. -/
inductive ExchangeEvent (s : State) : State → Prop
  | restarted : ExchangeEvent s (restartAll s)
  | segmentStarted {t : State} (h : freeForSegment s = true) (hc : t.cycle = s.cycle) (hs : t.slots = s.slots)
      (hm : t.maps = s.maps) : ExchangeEvent s t
  | frameAccepted (body : List Byte) (f : HeldFrame) (g : Nat) (long : Bool)
      (h : checkFrame s (cycleFields body) = .accepted f g long) : ExchangeEvent s (acceptFrame f g long s)
  | frameServed (f : HeldFrame) (h : s.cycle.holder = some f) (hb : backplaneIdle s = true) :
      ExchangeEvent s (serveFrame f (s.modCycle fun c => { c with holder := none }))
  | windowClosed (x : Exchange) (a : Addressed) (inWindow : Bool) (response : List Byte)
      (h : s.cycle.exchange = some x) (ha : x.addressed[x.outcomes.length]? = some a) (hc : x.cut = false) :
      ExchangeEvent s (s.modCycle fun c =>
        { c with exchange := some { x with
            outcomes := x.outcomes ++ [responseOutcome a.slot a.inputLength inWindow response] } })
  | exchangeCut : ExchangeEvent s (s.modCycle fun c => { c with exchange := none })
  | accounted (x : Exchange) (h : s.cycle.exchange = some x) (hc : x.cut = false) :
      ExchangeEvent s ((x.addressed.zip x.outcomes).foldl (accountSlot (missLimit s))
        (s.modCycle fun c => { c with exchange := none }))
  | watchdogExpired (h : s.cycle.watchdog.isSome = true) :
      ExchangeEvent s (postNotice (.rackSafe (s.cycle.lastCount.getD 0)) (s.modCycle fun c =>
        { c with rackState := .safe, watchdog := none, safeDue := true, safeTimer := some s.settings.period }))
  | safeTimerExpired (h : s.cycle.safeTimer.isSome = true) :
      ExchangeEvent s (s.modCycle fun c => { c with safeDue := true, safeTimer := some s.settings.period })
  | safeStarted (h : s.cycle.safeDue = true) (hb : backplaneIdle s = true) :
      ExchangeEvent s (startExchange .safe (addressedEntries s) ((addressedEntries s).flatMap (safeOutput s))
        (s.modCycle fun c => { c with safeDue := false }))

theorem Served.quiet (h : Served s t) : Quiet s t ∨ ExchangeEvent s t := by
  cases h with
  | modeSet k m => exact .inl (setMode_quiet k m s)
  | started k _ _ =>
    exact .inl ((enterState_quiet k (by decide) s).trans
      (.of_slots rfl rfl rfl))
  | stopped k _ => exact .inl (stopSlot_quiet k s)
  | faultedCleared k _ =>
    exact .inl (((modSlot_quiet k (f := fun r => { r with faultReason := none, cardCode := none, profileIndex := none })
      (fun r hx => ⟨hx, rfl⟩) s).trans
      (enterState_quiet k (by decide) _)).trans (admissionGate_quiet k _))
  | quarantinedCleared k _ =>
    refine .inl ((modSlot_quiet k (f := fun r =>
      { r with faultRun := 0, mode := .manual, faultReason := none, cardCode := none, profileIndex := none })
        (fun r hx => ⟨hx, rfl⟩) s).trans (enterState_quiet k ?_ _))
    obtain hc | hc | hc := clearedState_cases k s <;> rw [hc] <;> exact SlotState.noConfusion
  | profilesPurged => rw [foldl_setProfile_frame]; exact .inl (.of_slots rfl rfl rfl)
  | settingsPut args r _ _ => exact .inl (putSettings_quiet r s)
  | restarted => exact .inr .restarted
  | _ => exact .inl (.of_slots rfl rfl rfl)

theorem Effect.quiet (h : Effect s t) : Quiet s t ∨ ExchangeEvent s t := by
  cases h with
  | served h => exact h.quiet
  | lineAsserted k => exact .inl (lineAsserted_quiet k s)
  | lineDeasserted k => exact .inl (lineDeasserted_quiet k s)
  | inserted k d e _ =>
    exact .inl (Quiet.trans (u := s.modPres k fun r => { r with phase := .seated, timer := .stopped })
      (.of_slots rfl rfl rfl) (cardArrived_quiet k e _))
  | removed k d _ =>
    exact .inl (Quiet.trans (u := s.modPres k fun r => { r with phase := .absent, timer := .stopped, auxSupply := false })
      (.of_slots rfl rfl rfl) (cardGone_quiet k _))
  | segmentStarted x q hf _ => exact .inr (.segmentStarted hf rfl rfl rfl)
  | segmentTimedOut => exact .inl ⟨rfl, fun h => congrArg (Option.map _) h, fun _ => .of_eq rfl⟩
  | segmentFreed => exact .inl ⟨rfl, fun _ => rfl, fun _ => .of_eq rfl⟩
  | segmentKept => exact .inl ⟨rfl, fun _ => rfl, fun _ => .of_eq rfl⟩
  | segmentReturned => exact .inl ⟨rfl, fun _ => rfl, fun _ => .of_eq rfl⟩
  | identCompleted g x _ _ o => exact .inl ((segmentOver_quiet s).trans (identCompletion_end x o _).quiet)
  | completed g x _ _ c => exact .inl ((segmentOver_quiet s).trans (completeTransaction_quiet x c _))
  | rampGood k _ _ =>
    rw [rampGood_eq]
    refine .inl (Quiet.trans (u := rampEnded k s) (.of_slot (k := k) rfl rfl (.of_state ?_) fun j hj => ?_)
      (startRamp_quiet _))
    · rw [rampEnded_slot, if_pos rfl]; exact (SlotState.noConfusion : SlotState.configuring ≠ .running)
    · rw [rampEnded_slot, if_neg hj]
  | rampBad k _ _ =>
    unfold Machine.rampBad; split
    · exact .inl (reportFault_quiet ..)
    · exact .inl (.of_slots rfl rfl rfl)
  | rampDiscarded k _ _ =>
    unfold Machine.rampDiscarded
    have h : ∀ u, Quiet s u → Quiet s (startRamp u) := fun u hu => hu.trans (startRamp_quiet u)
    exact .inl (h _ (.of_slots rfl rfl rfl))
  | powerLost k _ c _ =>
    exact .inl (Quiet.trans (u := s.modPow k fun r => { r with filter := false }) (.of_slots rfl rfl rfl)
      (reportFault_quiet ..))
  | configTimedOut k d _ =>
    exact .inl (Quiet.trans (u := s.setDownload k none) (.of_slots rfl rfl rfl) (reportFault_quiet ..))
  | built _ => exact .inl (runBuild_quiet s)
  | frameAccepted body f g long h => exact .inr (.frameAccepted body f g long h)
  | frameServed f h hb => exact .inr (.frameServed f h hb)
  | windowClosed x a inWindow response h ha hc => exact .inr (.windowClosed x a inWindow response h ha hc)
  | exchangeCut => exact .inr .exchangeCut
  | accounted x h hc _ => exact .inr (.accounted x h hc)
  | watchdogExpired h => exact .inr (.watchdogExpired h)
  | safeTimerExpired h => exact .inr (.safeTimerExpired h)
  | safeStarted h hb => exact .inr (.safeStarted h hb)
  | _ => exact .inl (.of_slots rfl rfl rfl)

end

end Sys2Proof.Machine
end

section
/-!
PROOF. The Cycle Engine along a step (O8), continued: the commands that it takes part in.
-/
namespace Sys2Proof.Machine

section
variable {s t : State}

/-! ## The parts of the invariant -/

/-- The timers of each rack state (R147). -/
def EngineSound (c : CycleEngine) : Prop :=
  (c.watchdog.isSome = true ↔ c.rackState = .run) ∧ (c.safeTimer.isSome = true ↔ c.rackState = .safe)
    ∧ (c.safeDue = true → c.rackState = .safe) ∧ (c.lastCount = none ↔ c.rackState = .idle)
    ∧ (c.rackState = .idle → c.holder = none)

/-- One user of the backplane at a time (R95), and no more outcomes than windows. -/
def OneUser (s : State) : Prop :=
  ∀ x, s.cycle.exchange = some x → s.service.segment = none ∧ x.outcomes.length ≤ x.addressed.length

/-- The bound of one slot's miss count (R146, R156). -/
def MissFor (r : SlotRecord) (c : CycleSlot) : Prop := c.missCount ≤ 30 ∧ (r.state = .running → c.missCount ≤ 29)

theorem cycleSound_iff (s : State) :
    CycleSound s ↔ EngineSound s.cycle ∧ OneUser s ∧ ∀ k, MissFor (s.slot k) (s.cyc k) := by
  constructor
  · rintro ⟨hw, ht, hd, hc, hh, hx, hm⟩
    exact ⟨⟨hw, ht, hd, hc, hh⟩, hx, hm⟩
  · rintro ⟨⟨hw, ht, hd, hc, hh⟩, hx, hm⟩
    exact ⟨hw, ht, hd, hc, hh, hx, hm⟩

theorem engineSound_slots {c c' : CycleEngine} (h : { c' with slots := c.slots } = c) (hc : EngineSound c) :
    EngineSound c' := by
  rw [← h] at hc
  exact hc

theorem exchange_of_rest {c c' : CycleEngine} (h : { c' with slots := c.slots } = c) : c'.exchange = c.exchange :=
  calc c'.exchange = ({ c' with slots := c.slots } : CycleEngine).exchange := rfl
    _ = c.exchange := by rw [h]

theorem holder_of_rest {c c' : CycleEngine} (h : { c' with slots := c.slots } = c) : c'.holder = c.holder :=
  calc c'.holder = ({ c' with slots := c.slots } : CycleEngine).holder := rfl
    _ = c.holder := by rw [h]

theorem modCyc_cyc_eq (j k : Slot) (f : CycleSlot → CycleSlot) (u : State) :
    (u.modCyc k f).cyc j = if j = k then f (u.cyc k) else u.cyc j := look_amend ..

theorem MissFor.of_notEntered {r r' : SlotRecord} {c : CycleSlot} (h : MissFor r c) (hr : NotEntered r r') :
    MissFor r' c := ⟨h.1, fun hx => h.2 (hr hx).1⟩

theorem oneUser_of_none (h : s.cycle.exchange = none) : OneUser s := fun x hx => by
  rw [h] at hx; cases hx

theorem Quiet.cycleSound (hs : CycleSound s) (h : Quiet s t) : CycleSound t := by
  obtain ⟨hengine, huser, hmiss⟩ := (cycleSound_iff s).mp hs
  refine (cycleSound_iff t).mpr ⟨h.cycle ▸ hengine, fun x hx => ?_, fun k => ?_⟩
  · rw [h.cycle] at hx
    obtain ⟨hseg, hlen⟩ := huser x hx
    exact ⟨h.segment hseg, hlen⟩
  · have hcyc : t.cyc k = s.cyc k := congrArg (fun c : CycleEngine => look c.slots k) h.cycle
    rw [hcyc]
    exact (hmiss k).of_notEntered (h.slots k)

theorem segment_of_idle (h : backplaneIdle s = true) : s.cycle.exchange = none ∧ s.service.segment = none := by
  simpa [backplaneIdle] using h

/-! ## Frames and exchanges -/

theorem acceptEngine_sound (r : RackSettings) (count : Half) {c : CycleEngine} (h : EngineSound c) :
    EngineSound (acceptEngine r count c) ∧ (acceptEngine r count c).rackState = .run := by
  obtain ⟨-, ht, hd, -, -⟩ := h
  refine ⟨⟨iff_of_true rfl rfl, ?_, ?_, iff_of_false (fun h => (by cases h)) (fun h => (by cases h)),
    fun h => (by cases h)⟩, rfl⟩
  · refine iff_of_false (fun hsome => ?_) (fun h => (by cases h))
    cases hx : c.rackState == .safe with
    | true => rw [acceptEngine, hx] at hsome; cases hsome
    | false =>
      rw [acceptEngine, hx] at hsome
      have hsafe := ht.mp hsome
      rw [hsafe] at hx; cases hx
  · intro hdue
    cases hx : c.rackState == .safe with
    | true => simp [acceptEngine, hx] at hdue
    | false =>
      have hsafe := hd (by simpa [acceptEngine, hx] using hdue)
      rw [hsafe] at hx; cases hx

theorem frameTaken_cycle (f : HeldFrame) (g : Nat) (long : Bool) (s : State) :
    (frameTaken f g long s).cycle = acceptEngine s.settings f.cycleCount s.cycle := by
  unfold frameTaken
  cases long <;> split <;> rfl

theorem frameTaken_service (f : HeldFrame) (g : Nat) (long : Bool) (s : State) :
    (frameTaken f g long s).service = s.service := by
  unfold frameTaken
  cases long <;> split <;> rfl

theorem frameTaken_cycleSound (f : HeldFrame) (g : Nat) (long : Bool) (h : CycleSound s) :
    CycleSound (frameTaken f g long s) ∧ (frameTaken f g long s).cycle.rackState = .run := by
  obtain ⟨hengine, huser, hmiss⟩ := (cycleSound_iff s).mp h
  obtain ⟨hsound, hrun⟩ := acceptEngine_sound s.settings f.cycleCount hengine
  refine ⟨(cycleSound_iff _).mpr ⟨by rw [frameTaken_cycle]; exact hsound, fun x hx => ?_, fun k => ?_⟩,
    by rw [frameTaken_cycle]; exact hrun⟩
  · rw [frameTaken_cycle] at hx
    rw [frameTaken_service]
    exact huser x hx
  · rw [slot_of_slots (frameTaken_slots f g long), State.cyc, frameTaken_cycle]
    exact hmiss k

/-- A swap brings slots into RUNNING with miss count 0 (R158). -/
theorem swapMaps_cycleSound (h : CycleSound s) : CycleSound (swapMaps s) := by
  obtain ⟨hengine, huser, hmiss⟩ := (cycleSound_iff s).mp h
  have hrest := swapMaps_cycle s
  refine (cycleSound_iff _).mpr ⟨engineSound_slots hrest hengine, fun x hx => ?_, fun k => ?_⟩
  · have hexchange : (swapMaps s).cycle.exchange = s.cycle.exchange := exchange_of_rest hrest
    have hservice : (swapMaps s).service = s.service := congrArg (·.2) (swapMaps_tasks s)
    rw [hexchange] at hx
    rw [hservice]
    exact huser x hx
  · cases hoffered : s.maps.offered with
    | none =>
      have hs : swapMaps s = s := by simp only [swapMaps, hoffered]
      rw [hs]
      exact hmiss k
    | some m =>
      rw [swapMaps_slot_eq hoffered, swapMaps_cyc_eq hoffered]
      cases swapEntry m s k with
      | some e => exact ⟨Nat.zero_le _, fun _ => Nat.zero_le _⟩
      | none => exact hmiss k

/-- The bytes of a frame go into last-output buffers alone. -/
theorem copyOutput_cycle (image : List Byte) (e : MapEntry) (u : State) :
    { (copyOutput image e u).cycle with slots := u.cycle.slots } = u.cycle := by
  unfold copyOutput; split <;> rfl

theorem copyOutput_cyc (image : List Byte) (e : MapEntry) (u : State) (k : Slot) : (copyOutput image e u).cyc k =
    if k = e.slot then { u.cyc k with lastOutput := (e.output.map (imageAt image)).getD (u.cyc k).lastOutput }
    else u.cyc k := by
  unfold copyOutput
  split
  · rename_i r hr
    rw [modCyc_cyc_eq]
    split
    · rename_i hk; rw [hk, hr]; rfl
    · rfl
  · rename_i hr
    rw [hr]
    split <;> rfl

theorem copyOutput_cycleSound (image : List Byte) (e : MapEntry) (h : CycleSound s) :
    CycleSound (copyOutput image e s) := by
  obtain ⟨hengine, huser, hmiss⟩ := (cycleSound_iff s).mp h
  have hrest := copyOutput_cycle image e s
  refine (cycleSound_iff _).mpr ⟨engineSound_slots hrest hengine, fun x hx => ?_, fun k => ?_⟩
  · have hexchange : (copyOutput image e s).cycle.exchange = s.cycle.exchange := exchange_of_rest hrest
    have hservice : (copyOutput image e s).service = s.service := congrArg (·.2) (copyOutput_tasks image s e)
    rw [hexchange] at hx
    rw [hservice]
    exact huser x hx
  · rw [slot_of_slots (copyOutput_slots image s e), copyOutput_cyc]
    split
    · exact hmiss k
    · exact hmiss k

theorem startExchange_cycleSound (kind : ExchangeKind) (es : List MapEntry) (outputs : List Byte)
    (h : CycleSound s) (hseg : s.service.segment = none) : CycleSound (startExchange kind es outputs s) := by
  obtain ⟨hengine, -, hmiss⟩ := (cycleSound_iff s).mp h
  refine (cycleSound_iff _).mpr ⟨hengine, fun x hx => ?_, hmiss⟩
  cases hx
  exact ⟨hseg, Nat.zero_le _⟩

/-- The state in which the service of a frame finds its addressed slots: that after the swap, for class OFFERED. -/
def swapFor (f : HeldFrame) (s : State) : State := if f.frameClass = .offered then swapMaps s else s

/-- The frame's bytes taken into the last-output buffers of the addressed slots. -/
def copyOutputs (f : HeldFrame) (es : List MapEntry) (s : State) : State :=
  es.foldl (fun u e => copyOutput f.output e u) s

theorem serveFrame_eq (f : HeldFrame) (s : State) : serveFrame f s =
    startExchange (.normal f.cycleCount) (addressedEntries (swapFor f s))
      ((addressedEntries (swapFor f s)).flatMap
        (normalOutput (copyOutputs f (addressedEntries (swapFor f s)) (swapFor f s))))
      (copyOutputs f (addressedEntries (swapFor f s)) (swapFor f s)) := by
  unfold serveFrame swapFor
  cases f.frameClass <;> rfl

theorem swapFor_service (f : HeldFrame) (s : State) : (swapFor f s).service = s.service := by
  unfold swapFor; split
  · exact congrArg (·.2) (swapMaps_tasks s)
  · rfl

theorem copyOutputs_service (f : HeldFrame) (es : List MapEntry) (s : State) : (copyOutputs f es s).service = s.service :=
  foldl_same s State.service _ (fun u e => congrArg (·.2) (copyOutput_tasks f.output u e)) es

theorem serveFrame_cycleSound (f : HeldFrame) (h : CycleSound s) (hseg : s.service.segment = none) :
    CycleSound (serveFrame f s) := by
  have hswap : CycleSound (swapFor f s) := by
    unfold swapFor; split
    · exact swapMaps_cycleSound h
    · exact h
  have hcopied : ∀ (es : List MapEntry) (u : State), CycleSound u → CycleSound (copyOutputs f es u) := by
    intro es
    induction es with
    | nil => exact fun _ hu => hu
    | cons e es ih => exact fun u hu => ih _ (copyOutput_cycleSound f.output e hu)
  rw [serveFrame_eq]
  refine startExchange_cycleSound _ _ _ (hcopied _ _ hswap) ?_
  rw [copyOutputs_service, swapFor_service]
  exact hseg

/-! ## The end of an exchange -/

theorem missLimit_le (h : TablesSound s) : missLimit s ≤ 30 := by
  obtain ⟨⟨-, -, -, ⟨-, hlimit⟩, hgrace, -⟩, -, -⟩ := h
  unfold missLimit
  split <;> omega

theorem missCounted_cyc (j k : Slot) (u : State) : (missCounted k u).cyc j =
    if j = k then { u.cyc k with missCount := (u.cyc k).missCount + 1, inputValid := false } else u.cyc j :=
  modCyc_cyc_eq ..

theorem takeResponse_cyc (j k : Slot) (data : List Byte) (diag : Bool) (u : State) : (takeResponse k data diag u).cyc j =
    if j = k then { u.cyc k with missCount := 0, lastInput := data, inputValid := true, cardDiag := diag }
    else u.cyc j := by
  have hcyc : (takeResponse k data diag u).cyc j = (u.modCyc k fun c =>
      { c with missCount := 0, lastInput := data, inputValid := true, cardDiag := diag }).cyc j := by
    unfold takeResponse; dsimp only; split <;> rfl
  rw [hcyc]
  exact modCyc_cyc_eq ..

/-- The accounting of a slot touches the Cycle Engine in the slots' buffers alone, and the backplane not at all. -/
theorem accountSlot_cycle (limit : Nat) (p : Addressed × WindowOutcome) (u : State) :
    { (accountSlot limit u p).cycle with slots := u.cycle.slots } = u.cycle := by
  obtain h | ⟨-, -, ⟨data, diag, -, h⟩ | ⟨-, -, h⟩ | ⟨-, -, h⟩⟩ := accountSlot_cases (s := u) limit p.1 p.2 <;> rw [h]
  · unfold takeResponse; dsimp only; split <;> rfl
  · rfl
  · have hc : (faultEntry p.1.slot .responseLost none (missCounted p.1.slot u)).cycle = (missCounted p.1.slot u).cycle :=
      (faultEntry_quiet ..).cycle
    rw [hc]
    rfl

theorem accountSlot_notEntered (limit : Nat) (p : Addressed × WindowOutcome) (u : State) (k : Slot) :
    NotEntered (u.slot k) ((accountSlot limit u p).slot k) := by
  have hmissed : NotEntered (u.slot k) ((missCounted p.1.slot u).slot k) := by
    rw [missCounted_slot]
    split
    · rename_i hk; rw [hk]; exact fun hx => ⟨hx, rfl⟩
    · exact .of_eq rfl
  obtain h | ⟨-, -, ⟨data, diag, -, h⟩ | ⟨-, -, h⟩ | ⟨-, -, h⟩⟩ := accountSlot_cases (s := u) limit p.1 p.2 <;> rw [h]
  · exact .of_eq rfl
  · rw [takeResponse_slot]
    split
    · rename_i hk
      rw [hk]
      unfold countAnswered
      split <;> exact fun hx => ⟨hx, rfl⟩
    · exact .of_eq rfl
  · exact hmissed
  · intro hx
    obtain ⟨hx', he'⟩ := (faultEntry_quiet p.1.slot .responseLost none (missCounted p.1.slot u)).slots k hx
    obtain ⟨hx, he⟩ := hmissed hx'
    exact ⟨hx, he'.trans he⟩

/-- A miss below a limit of 30 leaves 29 at most; at the limit the slot is no longer RUNNING. -/
theorem accountSlot_missFor {limit : Nat} (hlimit : limit ≤ 30) (p : Addressed × WindowOutcome) {u : State}
    (h : ∀ k, MissFor (u.slot k) (u.cyc k)) (k : Slot) :
    MissFor ((accountSlot limit u p).slot k) ((accountSlot limit u p).cyc k) := by
  have hold := (h k).of_notEntered (accountSlot_notEntered limit p u k)
  obtain hs | ⟨hrun, -, ⟨data, diag, -, hs⟩ | ⟨-, hlow, hs⟩ | ⟨-, -, hs⟩⟩ := accountSlot_cases (s := u) limit p.1 p.2
  · rw [show accountSlot limit u p = u from hs] at hold ⊢
    exact h k
  · rw [show accountSlot limit u p = takeResponse p.1.slot data diag u from hs] at hold ⊢
    rw [takeResponse_cyc]
    split
    · exact ⟨Nat.zero_le _, fun _ => Nat.zero_le _⟩
    · exact hold
  · rw [show accountSlot limit u p = missCounted p.1.slot u from hs] at hold ⊢
    rw [missCounted_cyc]
    split
    · constructor
      · dsimp only; omega
      · intro _; dsimp only; omega
    · exact hold
  · rw [show accountSlot limit u p = faultEntry p.1.slot .responseLost none (missCounted p.1.slot u) from hs] at hold ⊢
    have hcyc : (faultEntry p.1.slot .responseLost none (missCounted p.1.slot u)).cyc k
        = (missCounted p.1.slot u).cyc k :=
      congrArg (fun c : CycleEngine => look c.slots k) (faultEntry_quiet ..).cycle
    rw [hcyc, missCounted_cyc]
    split
    · rename_i hk
      have hcount := (h p.1.slot).2 hrun
      refine ⟨by dsimp only; omega, fun hx => absurd hx ?_⟩
      rw [hk, faultEntry_slot_same]
      exact faultedRecord_state_ne _ _ _
    · exact hold

theorem accounted_cycleSound {limit : Nat} (hlimit : limit ≤ 30) (ps : List (Addressed × WindowOutcome))
    (h : CycleSound s) (hx : s.cycle.exchange = none) : CycleSound (ps.foldl (accountSlot limit) s) := by
  induction ps generalizing s with
  | nil => exact h
  | cons p ps ih =>
    obtain ⟨hengine, -, hmiss⟩ := (cycleSound_iff s).mp h
    have hrest := accountSlot_cycle limit p s
    have hnone : (accountSlot limit s p).cycle.exchange = none := (exchange_of_rest hrest).trans hx
    exact ih ((cycleSound_iff _).mpr ⟨engineSound_slots hrest hengine, oneUser_of_none hnone,
      accountSlot_missFor hlimit p hmiss⟩) hnone

/-! ## The commands -/

theorem engineSound_reset (x : Option Exchange) : EngineSound { CycleEngine.reset with exchange := x } :=
  show EngineSound CycleEngine.reset from ⟨by decide, by decide, by decide, by decide, fun _ => rfl⟩

theorem restartBlocks_cycleSound (h : CycleSound s) : CycleSound (restartBlocks s) := by
  obtain ⟨-, huser, -⟩ := (cycleSound_iff s).mp h
  refine (cycleSound_iff _).mpr ⟨engineSound_reset _, fun x hx => ?_, fun k => ?_⟩
  · obtain ⟨y, hy, rfl⟩ := Option.map_eq_some_iff.mp (show s.cycle.exchange.map (fun x => { x with cut := true }) = some x
      from hx)
    obtain ⟨hseg, hlen⟩ := huser y hy
    exact ⟨congrArg (Option.map _) hseg, hlen⟩
  · have hcyc : (restartBlocks s).cyc k = CycleSlot.reset := look_replicate CycleSlot.reset k
    rw [hcyc]
    exact ⟨by decide, fun _ => by decide⟩

theorem resumeInsertion_quiet (k : Slot) (u : State) : Quiet u (resumeInsertion k u) := by
  unfold resumeInsertion; split
  · exact lineAsserted_quiet k u
  · exact .refl u

theorem restartAll_cycleSound (h : CycleSound s) : CycleSound (restartAll s) := by
  rw [restartAll]
  exact (eachSlot_quiet admissionGate_quiet allSlots _).cycleSound
    ((eachSlot_quiet resumeInsertion_quiet allSlots _).cycleSound (restartBlocks_cycleSound h))

theorem redetect_quiet (k : Slot) (u : State) : Quiet u (redetect k u) := by
  unfold redetect; split
  · exact lineAsserted_quiet k u
  · exact .refl u

theorem coldReset_cycleSound (s : State) : CycleSound (eachSlot allSlots redetect (coldState s)) := by
  refine (eachSlot_quiet redetect_quiet allSlots _).cycleSound ((cycleSound_iff _).mpr
    ⟨engineSound_reset none, oneUser_of_none rfl, fun k => ?_⟩)
  have hcyc : (coldState s).cyc k = CycleSlot.reset := look_replicate CycleSlot.reset k
  rw [hcyc]
  exact ⟨by decide, fun _ => by decide⟩

theorem ExchangeEvent.keeps_cycleSound (ht : TablesSound s) (hs : CycleSound s) (h : ExchangeEvent s t) :
    CycleSound t := by
  obtain ⟨hengine, huser, hmiss⟩ := (cycleSound_iff s).mp hs
  cases h with
  | restarted => exact restartAll_cycleSound hs
  | segmentStarted hf hc hslots _ =>
    have hfree : s.cycle.exchange = none := by
      simp only [freeForSegment, Bool.and_eq_true] at hf
      exact (segment_of_idle hf.1.1).1
    refine (cycleSound_iff t).mpr ⟨hc ▸ hengine, oneUser_of_none (hc ▸ hfree), fun k => ?_⟩
    rw [slot_of_slots hslots, State.cyc, hc]
    exact hmiss k
  | frameAccepted body f g long _ =>
    obtain ⟨htaken, hrun⟩ := frameTaken_cycleSound f g long hs
    rw [acceptFrame_eq]
    split
    · rename_i hfree
      simp only [Bool.and_eq_true] at hfree
      exact serveFrame_cycleSound f htaken (segment_of_idle hfree.1).2
    · obtain ⟨⟨hw, hst, hd, hc, -⟩, huser, hmiss⟩ := (cycleSound_iff _).mp htaken
      refine (cycleSound_iff _).mpr ⟨⟨hw, hst, hd, hc, fun hidle => ?_⟩, huser, hmiss⟩
      have hidle : (frameTaken f g long s).cycle.rackState = .idle := hidle
      rw [hrun] at hidle; cases hidle
  | frameServed f _ hb =>
    obtain ⟨hw, hst, hd, hc, -⟩ := hengine
    exact serveFrame_cycleSound f ((cycleSound_iff _).mpr ⟨⟨hw, hst, hd, hc, fun _ => rfl⟩, huser, hmiss⟩)
      (segment_of_idle hb).2
  | windowClosed x a inWindow response hx ha _ =>
    refine (cycleSound_iff _).mpr ⟨hengine, fun y hy => ?_, hmiss⟩
    cases hy
    obtain ⟨hseg, -⟩ := huser x hx
    refine ⟨hseg, ?_⟩
    obtain ⟨hlt, -⟩ := List.getElem?_eq_some_iff.mp ha
    dsimp only
    rw [List.length_append, List.length_singleton]
    omega
  | exchangeCut => exact (cycleSound_iff _).mpr ⟨hengine, oneUser_of_none rfl, hmiss⟩
  | accounted x _ _ =>
    exact accounted_cycleSound (s := s.modCycle fun c => { c with exchange := none }) (missLimit_le ht) _
      ((cycleSound_iff _).mpr ⟨hengine, oneUser_of_none rfl, hmiss⟩) rfl
  | watchdogExpired hw =>
    obtain ⟨hwatch, -, -, hcount, -⟩ := hengine
    have hrun := hwatch.mp hw
    refine (cycleSound_iff _).mpr ⟨⟨iff_of_false (fun h => (by cases h)) (fun h => (by cases h)), iff_of_true rfl rfl,
      fun _ => rfl, iff_of_false (fun h => ?_) (fun h => (by cases h)), fun h => (by cases h)⟩, huser, hmiss⟩
    rw [hcount.mp h] at hrun
    cases hrun
  | safeTimerExpired hsome =>
    obtain ⟨hwatch, htimer, -, hcount, hhold⟩ := hengine
    have hsafe := htimer.mp hsome
    exact (cycleSound_iff _).mpr ⟨⟨hwatch, iff_of_true rfl hsafe, fun _ => hsafe, hcount, hhold⟩, huser, hmiss⟩
  | safeStarted _ hb =>
    obtain ⟨hwatch, htimer, -, hcount, hhold⟩ := hengine
    exact startExchange_cycleSound _ _ _ ((cycleSound_iff _).mpr
      ⟨⟨hwatch, htimer, fun h => (by cases h), hcount, hhold⟩, huser, hmiss⟩) (segment_of_idle hb).2

theorem Posted.quiet {u : State} (h : Posted s u t) : Quiet u t := by
  refine .of_slots ?_ ?_ h.slots_eq
  · cases h <;> rfl
  · cases h <;> rfl

theorem Done.keeps_cycleSound (ht : TablesSound s) (hs : CycleSound s) (hd : Done s t) : CycleSound t := by
  obtain ⟨u, he, hposted⟩ := hd
  refine hposted.quiet.cycleSound ?_
  obtain h | h := he.quiet
  · exact h.cycleSound hs
  · exact h.keeps_cycleSound ht hs

end

/-- Settles O8: the effective miss limit is 30 at most, and a slot at its limit leaves RUNNING. -/
theorem stepKeepsCycleSound : Obligations.StepKeepsCycleSound := fun s t ht hs hstep => by
  obtain h | ⟨c, rest, -, h | hd⟩ := step_cases hstep
  · exact h ▸ hs
  · exact h ▸ coldReset_cycleSound { s with pending := rest }
  · have htables : TablesSound { s with pending := rest } := ht
    have hcycle : CycleSound { s with pending := rest } := hs
    exact hd.keeps_cycleSound htables hcycle

end Sys2Proof.Machine
end

section
/-!
PROOF. The exchange buffers along a step (O14): a swap and a frame's service give buffers of their regions' lengths, and
everything else leaves buffers, regions and held frames together.
-/
namespace Sys2Proof.Machine

section
variable {s t : State}

/-! ## The parts of the invariant -/

/-- A RUNNING slot's buffers have the lengths of its entry's regions (R146, R158). -/
def BufferFor (es : List MapEntry) (k : Slot) (r : SlotRecord) (c : CycleSlot) : Prop :=
  ∀ e, r.state = .running → entryOf es k = some e → e.epoch = r.epoch →
    c.lastOutput.length = regionLength e.output ∧ c.lastInput.length = regionLength e.input

/-- The input length of an addressed slot is that of its region, while the slot runs with the exchange's epoch. -/
def AddressedFor (s : State) (a : Addressed) : Prop :=
  (s.slot a.slot).state = .running → (s.slot a.slot).epoch = a.epoch →
    ∃ e, entryOf s.maps.active.entries a.slot = some e ∧ e.epoch = a.epoch ∧ a.inputLength = regionLength e.input

/-- The bytes that one addressed slot's window gathered. -/
def OutcomeFor (p : Addressed × WindowOutcome) : Prop := ∀ data diag, p.2 = .good data diag → data.length = p.1.inputLength

/-- A held frame covers the output regions of its map (R148). -/
def HolderFor (b : MapBuilder) (f : HeldFrame) : Prop :=
  outputExtent (mapFor b f.frameClass).entries ≤ f.output.length ∧ (f.frameClass = .offered → b.offered.isSome = true)

theorem buffersSound_iff (s : State) : BuffersSound s ↔
    (∀ k, BufferFor s.maps.active.entries k (s.slot k) (s.cyc k))
      ∧ (∀ x, s.cycle.exchange = some x → x.cut = false →
        (∀ p ∈ x.addressed.zip x.outcomes, OutcomeFor p) ∧ ∀ a ∈ x.addressed, AddressedFor s a)
      ∧ ∀ f, s.cycle.holder = some f → HolderFor s.maps f := by
  have houtcomes : ∀ ps : List (Addressed × WindowOutcome), (∀ p ∈ ps, OutcomeFor p)
      ↔ ∀ a data diag, (a, WindowOutcome.good data diag) ∈ ps → data.length = a.inputLength := fun ps =>
    ⟨fun h a data diag hp => h _ hp data diag rfl, fun h p hp data diag hd => h p.1 data diag (hd ▸ hp)⟩
  simp only [houtcomes]
  exact Iff.rfl

theorem BufferFor.of_notEntered {es : List MapEntry} {k : Slot} {r r' : SlotRecord} {c : CycleSlot}
    (h : BufferFor es k r c) (hr : NotEntered r r') : BufferFor es k r' c := fun e hx he hep => by
  obtain ⟨hx', hep'⟩ := hr hx
  exact h e hx' he (hep.trans hep')

theorem AddressedFor.of_notEntered {a : Addressed} (h : AddressedFor s a) (hm : t.maps.active = s.maps.active)
    (hr : NotEntered (s.slot a.slot) (t.slot a.slot)) : AddressedFor t a := fun hx he => by
  obtain ⟨hx', hep⟩ := hr hx
  rw [hm]
  exact h hx' (hep.symm.trans he)

theorem HolderFor.congr {b b' : MapBuilder} {f : HeldFrame} (h : HolderFor b f) (ha : b'.active = b.active)
    (ho : f.frameClass = .offered → b'.offered = b.offered) : HolderFor b' f := by
  unfold HolderFor at h ⊢
  cases hf : f.frameClass with
  | active =>
    rw [hf] at h
    refine ⟨?_, fun h' => by cases h'⟩
    show outputExtent b'.active.entries ≤ _
    rw [ha]
    exact h.1
  | offered =>
    rw [hf] at h
    simp only [mapFor, ho hf, ha] at h ⊢
    exact h

/-- What leaves the Cycle Engine and the Active Map leaves the buffers, when the Offered Map of a held frame stands. -/
theorem Quiet.buffersSound (h : BuffersSound s) (hq : Quiet s t) (ha : t.maps.active = s.maps.active)
    (ho : ∀ f, s.cycle.holder = some f → f.frameClass = .offered → t.maps.offered = s.maps.offered) : BuffersSound t := by
  obtain ⟨hbuffers, hexchange, hholder⟩ := (buffersSound_iff s).mp h
  refine (buffersSound_iff t).mpr ⟨fun k => ?_, fun x hx hc => ?_, fun f hf => ?_⟩
  · have hcyc : t.cyc k = s.cyc k := congrArg (fun c : CycleEngine => look c.slots k) hq.cycle
    rw [ha, hcyc]
    exact (hbuffers k).of_notEntered (hq.slots k)
  · rw [hq.cycle] at hx
    obtain ⟨hout, haddr⟩ := hexchange x hx hc
    exact ⟨hout, fun a ham => (haddr a ham).of_notEntered ha (hq.slots _)⟩
  · rw [hq.cycle] at hf
    exact (hholder f hf).congr ha (ho f hf)

/-! ## The service of a frame -/

theorem swapMaps_buffers {m : ImageMap} (hmaps : MapSlotsSound s) (hm : s.maps.offered = some m)
    (h : ∀ k, BufferFor s.maps.active.entries k (s.slot k) (s.cyc k)) (k : Slot) :
    BufferFor (swapMaps s).maps.active.entries k ((swapMaps s).slot k) ((swapMaps s).cyc k) := by
  rw [swapMaps_maps hm, swapMaps_slot_eq hm, swapMaps_cyc_eq hm]
  cases hentry : swapEntry m s k with
  | some e' =>
    obtain ⟨-, he', -⟩ := swapEntry_eq_some.mp hentry
    intro e _ he _
    obtain rfl : e' = e := Option.some.inj (he'.symm.trans he)
    exact ⟨List.length_replicate .., List.length_replicate ..⟩
  | none =>
    intro e hx he hep
    obtain ⟨hrunning, -⟩ := hmaps k
    obtain ⟨e', he', -, hsame⟩ := hrunning hx
    obtain rfl : e' = e := Option.some.inj ((hsame m hm).symm.trans he)
    exact h k e' hx he' hep

/-- The addressed entries are those of their slots in the Active Map, RUNNING with the entry's epoch. -/
theorem mem_addressedEntries {e : MapEntry} (h : e ∈ addressedEntries s) :
    entryOf s.maps.active.entries e.slot = some e ∧ (s.slot e.slot).state = .running
      ∧ (s.slot e.slot).epoch = e.epoch := by
  obtain ⟨hmem, hserved⟩ := List.mem_filter.mp h
  obtain ⟨k, -, hk⟩ := List.mem_filterMap.mp hmem
  rw [entryOf_slot hk]
  have hserved : (s.slot e.slot).state = .running ∧ (s.slot e.slot).epoch = e.epoch := by simpa [servedBy] using hserved
  exact ⟨hk, entryOf_slot hk ▸ hserved⟩

theorem stop_le_extent {rs : List Region} {r : Region} (h : r ∈ rs) : r.stop ≤ extent rs := by
  induction rs with
  | nil => cases h
  | cons x rs ih =>
    obtain rfl | h := List.mem_cons.mp h
    · exact Nat.le_max_left ..
    · exact Nat.le_trans (ih h) (Nat.le_max_right ..)

theorem length_imageAt {image : List Byte} {r : Region} (h : r.stop ≤ image.length) : (imageAt image r).length = r.length := by
  unfold Region.stop at h
  rw [imageAt, List.length_take, List.length_drop]
  omega

/-- The bytes of a frame that covers the output regions give each buffer its region's length. -/
theorem copyOutput_buffers {es : List MapEntry} {image : List Byte} {e : MapEntry} (he : entryOf es e.slot = some e)
    (himage : outputExtent es ≤ image.length) (h : ∀ k, BufferFor es k (s.slot k) (s.cyc k)) (k : Slot) :
    BufferFor es k ((copyOutput image e s).slot k) ((copyOutput image e s).cyc k) := by
  rw [slot_of_slots (copyOutput_slots image s e), copyOutput_cyc]
  split
  · rename_i hk
    intro e' hx he' hep
    obtain ⟨hout, hin⟩ := h k e' hx he' hep
    refine ⟨?_, hin⟩
    rw [hk] at he'
    obtain rfl : e = e' := Option.some.inj (he.symm.trans he')
    cases hr : e.output with
    | none => rw [hr] at hout; exact hout
    | some r =>
      have hmem : r ∈ outputRegions es := List.mem_filterMap.mpr ⟨e, List.mem_of_find?_eq_some he, hr⟩
      exact length_imageAt (Nat.le_trans (stop_le_extent hmem) himage)
  · exact h k

theorem copyOutputs_maps (f : HeldFrame) (es : List MapEntry) (s : State) : (copyOutputs f es s).maps = s.maps :=
  foldl_same s State.maps _ (fun u e => by unfold copyOutput; split <;> rfl) es

theorem copyOutputs_holder (f : HeldFrame) (es : List MapEntry) (s : State) :
    (copyOutputs f es s).cycle.holder = s.cycle.holder :=
  foldl_same s (·.cycle.holder) _ (fun u e => by unfold copyOutput; split <;> rfl) es

theorem copyOutputs_buffers {entries : List MapEntry} {f : HeldFrame} {es : List MapEntry}
    (hes : ∀ e ∈ es, entryOf entries e.slot = some e) (himage : outputExtent entries ≤ f.output.length)
    (h : ∀ k, BufferFor entries k (s.slot k) (s.cyc k)) (k : Slot) :
    BufferFor entries k ((copyOutputs f es s).slot k) ((copyOutputs f es s).cyc k) := by
  induction es generalizing s with
  | nil => exact h k
  | cons e es ih =>
    exact ih (fun x hx => hes x (List.mem_cons_of_mem _ hx))
      (copyOutput_buffers (hes e List.mem_cons_self) himage h)

/-- An exchange that starts for the entries of RUNNING slots gathers for their regions. -/
theorem startExchange_buffersSound {u : State} (kind : ExchangeKind) (outputs : List Byte)
    (h : ∀ k, BufferFor t.maps.active.entries k (t.slot k) (t.cyc k)) (hm : t.maps = u.maps) (hholder : ∀ f, t.cycle.holder = some f → HolderFor t.maps f) :
    BuffersSound (startExchange kind (addressedEntries u) outputs t) := by
  refine (buffersSound_iff _).mpr ⟨h, fun x hx _ => ?_, hholder⟩
  cases hx
  refine ⟨fun p hp => (by simp at hp), fun a ha _ _ => ?_⟩
  obtain ⟨e, he, rfl⟩ := List.mem_map.mp ha
  obtain ⟨hentry, -⟩ := mem_addressedEntries he
  refine ⟨e, ?_, rfl, rfl⟩
  show entryOf t.maps.active.entries e.slot = some e
  rw [hm]
  exact hentry

theorem swapFor_holder (f : HeldFrame) (s : State) : (swapFor f s).cycle.holder = s.cycle.holder := by
  unfold swapFor; split
  · exact holder_of_rest (swapMaps_cycle s)
  · rfl

theorem serveFrame_buffersSound {f : HeldFrame} (hmaps : MapSlotsSound s)
    (h : ∀ k, BufferFor s.maps.active.entries k (s.slot k) (s.cyc k)) (hf : HolderFor s.maps f)
    (hnone : s.cycle.holder = none) : BuffersSound (serveFrame f s) := by
  obtain ⟨himage, hoffered⟩ := hf
  have hswap : (∀ k, BufferFor (swapFor f s).maps.active.entries k ((swapFor f s).slot k) ((swapFor f s).cyc k))
      ∧ outputExtent (swapFor f s).maps.active.entries ≤ f.output.length := by
    unfold swapFor
    cases hclass : f.frameClass with
    | active =>
      rw [hclass] at himage
      rw [if_neg (by decide)]
      exact ⟨h, himage⟩
    | offered =>
      obtain ⟨m, hm⟩ := Option.isSome_iff_exists.mp (hoffered hclass)
      rw [hclass] at himage
      rw [if_pos rfl]
      refine ⟨swapMaps_buffers hmaps hm h, ?_⟩
      rw [swapMaps_maps hm]
      simpa [mapFor, hm] using himage
  obtain ⟨hbuffers, hcover⟩ := hswap
  rw [serveFrame_eq]
  refine startExchange_buffersSound _ _ (fun k => ?_) (copyOutputs_maps ..) fun f' hf' => ?_
  · rw [copyOutputs_maps]
    exact copyOutputs_buffers (fun e he => (mem_addressedEntries he).1) hcover hbuffers k
  · rw [copyOutputs_holder, swapFor_holder, hnone] at hf'
    cases hf'

/-- A frame accepted covers the output regions of its class's map (R148). -/
theorem holderFor_of_accepted {body : List Byte} {f : HeldFrame} {g : Nat} {long : Bool}
    (h : checkFrame s (cycleFields body) = .accepted f g long) : HolderFor s.maps f ∧ s.cycle.holder = none := by
  unfold checkFrame at h
  split at h
  · split at h
    · cases h
    · rename_i hlength
      split at h
      · cases h
      · rename_i cls hcls
        dsimp only at h
        split at h
        · cases h
        · rename_i hlong
          split at h
          · cases h
          · rename_i hfree
            cases h
            rw [not_or, not_not] at hlength
            obtain ⟨-, hlength⟩ := hlength
            refine ⟨⟨hlength ▸ Nat.le_of_not_lt hlong, fun hoff => ?_⟩, by simpa using hfree⟩
            dsimp only at hoff
            subst hoff
            unfold classify at hcls
            split at hcls
            · cases hcls
            · split at hcls
              · cases hcls
              · split at hcls
                · rename_i hany
                  obtain ⟨m, hm, -⟩ := Option.any_eq_true _ _ |>.mp hany
                  rw [hm]; rfl
                · cases hcls
  · cases h

/-! ## The end of an exchange -/

theorem accountSlot_active (limit : Nat) (p : Addressed × WindowOutcome) (u : State) :
    (accountSlot limit u p).maps.active = u.maps.active := congrArg Prod.fst (mapPair_accountSlot limit p u)

theorem accountSlot_buffers {limit : Nat} {p : Addressed × WindowOutcome} (hout : OutcomeFor p)
    (haddr : AddressedFor s p.1) (h : ∀ k, BufferFor s.maps.active.entries k (s.slot k) (s.cyc k)) (k : Slot) :
    BufferFor s.maps.active.entries k ((accountSlot limit s p).slot k) ((accountSlot limit s p).cyc k) := by
  have hold := (h k).of_notEntered (accountSlot_notEntered limit p s k)
  obtain hs | ⟨hrun, hepoch, ⟨data, diag, ho, hs⟩ | ⟨-, -, hs⟩ | ⟨-, -, hs⟩⟩ := accountSlot_cases (s := s) limit p.1 p.2
  · rw [show accountSlot limit s p = s from hs]
    exact h k
  · rw [show accountSlot limit s p = takeResponse p.1.slot data diag s from hs] at hold ⊢
    rw [takeResponse_cyc]
    split
    · rename_i hk
      obtain ⟨e, he, hep, hin⟩ := haddr hrun hepoch
      intro e' hx' he' hep'
      have hne := accountSlot_notEntered limit p s k
      rw [show accountSlot limit s p = takeResponse p.1.slot data diag s from hs] at hne
      obtain ⟨hx, hepoch'⟩ := hne hx'
      rw [hk] at he' hx hepoch' hep'
      obtain rfl : e = e' := Option.some.inj (he.symm.trans he')
      obtain ⟨hlast, -⟩ := h p.1.slot e hx he (hep'.trans hepoch')
      exact ⟨hlast, (hout data diag ho).trans hin⟩
    · exact hold
  · rw [show accountSlot limit s p = missCounted p.1.slot s from hs] at hold ⊢
    rw [missCounted_cyc]
    split
    · rename_i hk; rw [hk] at hold ⊢; exact hold
    · exact hold
  · rw [show accountSlot limit s p = faultEntry p.1.slot .responseLost none (missCounted p.1.slot s) from hs] at hold ⊢
    have hcyc : (faultEntry p.1.slot .responseLost none (missCounted p.1.slot s)).cyc k
        = (missCounted p.1.slot s).cyc k :=
      congrArg (fun c : CycleEngine => look c.slots k) (faultEntry_quiet ..).cycle
    rw [hcyc, missCounted_cyc]
    split
    · rename_i hk; rw [hk] at hold ⊢; exact hold
    · exact hold

theorem accounted_buffersSound (limit : Nat) (ps : List (Addressed × WindowOutcome)) (h : BuffersSound s)
    (hx : s.cycle.exchange = none) (hps : ∀ p ∈ ps, OutcomeFor p ∧ AddressedFor s p.1) :
    BuffersSound (ps.foldl (accountSlot limit) s) := by
  induction ps generalizing s with
  | nil => exact h
  | cons p ps ih =>
    obtain ⟨hbuffers, -, hholder⟩ := (buffersSound_iff s).mp h
    obtain ⟨hout, haddr⟩ := hps p List.mem_cons_self
    have hrest := accountSlot_cycle limit p s
    have hnone : (accountSlot limit s p).cycle.exchange = none := (exchange_of_rest hrest).trans hx
    have hactive := accountSlot_active limit p s
    refine ih ((buffersSound_iff _).mpr ⟨fun k => ?_, fun x hx => ?_, fun f hf => ?_⟩) hnone fun q hq => ?_
    · rw [hactive]
      exact accountSlot_buffers hout haddr hbuffers k
    · rw [hnone] at hx; cases hx
    · have hsame : (accountSlot limit s p).cycle.holder = s.cycle.holder :=
        holder_of_rest hrest
      rw [hsame] at hf
      exact (hholder f hf).congr hactive fun _ => congrArg Prod.snd (mapPair_accountSlot limit p s)
    · obtain ⟨hout', haddr'⟩ := hps q (List.mem_cons_of_mem _ hq)
      exact ⟨hout', haddr'.of_notEntered hactive (accountSlot_notEntered limit p s _)⟩

theorem responseOutcome_length {k : Slot} {n : Nat} {inWindow : Bool} {response data : List Byte} {diag : Bool}
    (h : responseOutcome k n inWindow response = .good data diag) : data.length = n := by
  unfold responseOutcome at h
  split at h
  · dsimp only at h
    split at h
    · rename_i hgood
      cases h
      simp only [Bool.and_eq_true, decide_eq_true_eq] at hgood
      exact hgood.2
    · cases h
  · cases h

/-- One more outcome goes with the addressed slot whose window was open. -/
theorem zip_concat {α β : Type} {as : List α} {bs : List β} {a : α} (h : as[bs.length]? = some a) (b : β) :
    as.zip (bs ++ [b]) = as.zip bs ++ [(a, b)] := by
  induction bs generalizing as with
  | nil =>
    cases as with
    | nil => cases h
    | cons a' as => cases h; simp
  | cons b' bs ih =>
    cases as with
    | nil => cases h
    | cons a' as => exact congrArg ((a', b') :: ·) (ih h)

/-! ## The commands -/

/-- With no slot RUNNING, no exchange but a cut one and no frame held, no buffer serves a region. -/
theorem buffersSound_of_idle (hx : ∀ k, (s.slot k).state ≠ .running)
    (hcut : ∀ x, s.cycle.exchange = some x → x.cut = true) (hholder : s.cycle.holder = none) : BuffersSound s := by
  refine (buffersSound_iff s).mpr ⟨fun k e hrun => absurd hrun (hx k), fun x hxc hc => ?_, fun f hf => ?_⟩
  · rw [hcut x hxc] at hc; cases hc
  · rw [hholder] at hf; cases hf

theorem restartAll_buffersSound (s : State) : BuffersSound (restartAll s) := by
  have hq : Quiet (restartBlocks s) (restartAll s) := by
    rw [restartAll]
    exact (eachSlot_quiet resumeInsertion_quiet allSlots _).trans (eachSlot_quiet admissionGate_quiet allSlots _)
  have hmapless : ∀ k, ((restartBlocks s).slot k).state ≠ .running := fun k => by
    rw [restartBlocks_slot, restartSlot]
    dsimp only
    split <;> exact SlotState.noConfusion
  refine buffersSound_of_idle (fun k hk => hmapless k (hq.slots k hk).1) (fun x hx => ?_) (by rw [hq.cycle]; rfl)
  rw [hq.cycle] at hx
  obtain ⟨y, -, rfl⟩ := Option.map_eq_some_iff.mp (show s.cycle.exchange.map (fun x => { x with cut := true }) = some x
    from hx)
  rfl

theorem coldReset_buffersSound (s : State) : BuffersSound (eachSlot allSlots redetect (coldState s)) := by
  have hq : Quiet (coldState s) (eachSlot allSlots redetect (coldState s)) := eachSlot_quiet redetect_quiet allSlots _
  have hreset : ∀ k, ((coldState s).slot k).state ≠ .running := fun k => by rw [coldState_slot]; decide
  refine buffersSound_of_idle (fun k hk => hreset k (hq.slots k hk).1) (fun x hx => ?_) (by rw [hq.cycle]; rfl)
  rw [hq.cycle] at hx
  cases hx

theorem runBuild_active (s : State) : (runBuild s).maps.active = s.maps.active := by
  have hplaced : ∀ k v, (reportPlaced k v).maps.active = v.maps.active := fun k v =>
    congrArg Prod.fst (reportPlaced_mapPair k v)
  have hparked : ∀ k r v, (reportParked k r v).maps.active = v.maps.active := fun k r v =>
    congrArg Prod.fst (reportParked_mapPair k r v)
  have hoffer : ∀ removed b, (offerMap removed b).maps.active = b.state.maps.active := fun removed b => by
    obtain h | h := offerMap_mapPair removed b <;> exact congrArg Prod.fst h
  rw [runBuild, hoffer, foldl_build_same (·.maps.active) applyAdd, foldl_build_same (·.maps.active) retryParked]
  · rfl
  · intro b k; unfold retryParked; split
    · exact hplaced k _
    · exact hparked k _ _
  · intro b k; unfold applyAdd; split
    · exact hplaced k _
    · exact hparked k _ _

theorem Quiet.keeps_buffersSound (h : BuffersSound s) (hq : Quiet s t) (hm : MapsMoved s t) : BuffersSound t := by
  cases hm with
  | kept hm => exact hq.buffersSound h (congrArg Prod.fst hm) fun _ _ _ => congrArg Prod.snd hm
  | built hdue ht =>
    subst ht
    obtain ⟨-, -, hholder⟩ := (buffersSound_iff s).mp h
    refine hq.buffersSound h (runBuild_active s) fun f hf hclass => ?_
    have hsome := (hholder f hf).2 hclass
    rw [buildDue_offered hdue] at hsome
    cases hsome
  | swapped m _ hx hx' _ => rw [hq.cycle, hx] at hx'; cases hx'
  | restarted ht => exact ht ▸ restartAll_buffersSound s

theorem ExchangeEvent.keeps_buffersSound (hmaps : MapSlotsSound s) (hs : BuffersSound s) (h : ExchangeEvent s t) :
    BuffersSound t := by
  obtain ⟨hbuffers, hexchange, hholder⟩ := (buffersSound_iff s).mp hs
  cases h with
  | restarted => exact restartAll_buffersSound s
  | segmentStarted _ hc hslots hm =>
    refine (buffersSound_iff t).mpr ⟨fun k => ?_, fun x hx hcut => ?_, fun f hf => ?_⟩
    · rw [hm, slot_of_slots hslots, State.cyc, hc]
      exact hbuffers k
    · rw [hc] at hx
      obtain ⟨hout, haddr⟩ := hexchange x hx hcut
      exact ⟨hout, fun a ha => (haddr a ha).of_notEntered (by rw [hm]) (.of_eq (slot_of_slots hslots _))⟩
    · rw [hm]
      rw [hc] at hf
      exact hholder f hf
  | frameAccepted body f g long hcheck =>
    obtain ⟨hf, hfree⟩ := holderFor_of_accepted hcheck
    have hm := frameTaken_maps f g long (s := s)
    have hslots := frameTaken_slots f g long (s := s)
    have hcyc : ∀ k, (frameTaken f g long s).cyc k = s.cyc k := fun k => by rw [State.cyc, frameTaken_cycle]; rfl
    have htaken : ∀ k, BufferFor (frameTaken f g long s).maps.active.entries k ((frameTaken f g long s).slot k)
        ((frameTaken f g long s).cyc k) := fun k => by
      rw [hm, slot_of_slots hslots, hcyc]
      exact hbuffers k
    rw [acceptFrame_eq]
    split
    · exact serveFrame_buffersSound (hmaps.of_slots hm hslots) htaken (by rw [hm]; exact hf)
        (by rw [frameTaken_cycle]; exact hfree)
    · refine (buffersSound_iff _).mpr ⟨htaken, fun x hx hcut => ?_, fun f' hf' => ?_⟩
      · have hx : (frameTaken f g long s).cycle.exchange = some x := hx
        rw [frameTaken_cycle] at hx
        obtain ⟨hout, haddr⟩ := hexchange x hx hcut
        exact ⟨hout, fun a ha => (haddr a ha).of_notEntered (congrArg MapBuilder.active hm)
          (.of_eq (slot_of_slots hslots _))⟩
      · obtain rfl : f = f' := Option.some.inj hf'
        show HolderFor (frameTaken f g long s).maps f
        rw [hm]
        exact hf
  | frameServed f hf _ =>
    exact serveFrame_buffersSound (s := s.modCycle fun c => { c with holder := none }) (hmaps.of_slots rfl rfl) hbuffers
      (hholder f hf) rfl
  | windowClosed x a inWindow response hx ha hcut =>
    refine (buffersSound_iff _).mpr ⟨hbuffers, fun y hy _ => ?_, hholder⟩
    cases hy
    obtain ⟨hout, haddr⟩ := hexchange x hx hcut
    refine ⟨fun p hp => ?_, haddr⟩
    rw [zip_concat ha] at hp
    obtain hp | hp := List.mem_append.mp hp
    · exact hout p hp
    · rw [List.mem_singleton.mp hp]
      exact fun data diag hgood => responseOutcome_length hgood
  | exchangeCut => exact (buffersSound_iff _).mpr ⟨hbuffers, fun x hx => (by cases hx), hholder⟩
  | accounted x hx hcut =>
    obtain ⟨hout, haddr⟩ := hexchange x hx hcut
    refine accounted_buffersSound (s := s.modCycle fun c => { c with exchange := none }) _ _
      ((buffersSound_iff _).mpr ⟨hbuffers, fun x hx => (by cases hx), hholder⟩) rfl fun p hp => ?_
    exact ⟨hout p hp, haddr p.1 (List.of_mem_zip (a := p.1) (b := p.2) hp).1⟩
  | watchdogExpired _ => exact (buffersSound_iff _).mpr ⟨hbuffers, hexchange, hholder⟩
  | safeTimerExpired _ => exact (buffersSound_iff _).mpr ⟨hbuffers, hexchange, hholder⟩
  | safeStarted _ _ => exact startExchange_buffersSound (u := s) _ _ hbuffers rfl hholder

theorem Done.keeps_buffersSound (hmaps : MapSlotsSound s) (hs : BuffersSound s) (hd : Done s t) : BuffersSound t := by
  obtain ⟨u, he, hposted⟩ := hd
  have hm : t.maps = u.maps := by cases hposted <;> rfl
  have hu : BuffersSound u := by
    obtain h | h := he.quiet
    · exact h.keeps_buffersSound hs he.moved
    · exact h.keeps_buffersSound hmaps hs
  exact hposted.quiet.buffersSound hu (by rw [hm]) fun _ _ _ => by rw [hm]

end

/-- Settles O14: an exchange starts only for entries of slots that run, and only a swap gives a slot other regions. -/
theorem stepKeepsBuffersSound : Obligations.StepKeepsBuffersSound := fun s t hmaps hs hstep => by
  obtain h | ⟨c, rest, -, h | hd⟩ := step_cases hstep
  · exact h ▸ hs
  · exact h ▸ coldReset_buffersSound { s with pending := rest }
  · have hmaps' : MapSlotsSound { s with pending := rest } := hmaps
    have hs' : BuffersSound { s with pending := rest } := hs
    exact hd.keeps_buffersSound hmaps' hs'

end Sys2Proof.Machine
end

section
/-!
PROOF. What a withdrawal leaves (R8, R85, R97, R109, R130): `Withdrawn` for a state that differs from the given one in
what is the slot's own alone, before the withdrawal and after it.
-/
namespace Sys2Proof.Machine

/-! ## Notices of other subjects -/

/-- The notice is not a SLOT notice of the slot. -/
def notOf (k : Slot) (n : Notice) : Bool := subjectOf n.body != .slot k

theorem queueNotice_filter_of_same {k : Slot} {b : NoticeBody} (hb : subjectOf b = .slot k) (q : List Notice) :
    (queueNotice b q).filter (notOf k) = q.filter (notOf k) := by
  induction q with
  | nil => simp [queueNotice, notOf, hb]
  | cons n q ih =>
    rw [queueNotice]
    split
    · rename_i hn; simp [notOf, hb, hn]
    · rw [List.filter_cons, List.filter_cons, ih]

theorem queueNotice_filter_of_ne {k : Slot} {b : NoticeBody} (hb : subjectOf b ≠ .slot k) (q : List Notice) :
    (queueNotice b q).filter (notOf k) = queueNotice b (q.filter (notOf k)) := by
  induction q with
  | nil => simp [queueNotice, notOf, hb]
  | cons n q ih =>
    rw [queueNotice]
    split
    · rename_i hn
      rw [List.filter_cons_of_pos (by simp [notOf, hb]), List.filter_cons_of_pos (by simp [notOf, hn, hb]), queueNotice,
        if_pos hn]
    · rename_i hn
      by_cases hk : notOf k n = true
      · rw [List.filter_cons_of_pos hk, List.filter_cons_of_pos hk, queueNotice, if_neg hn, ih]
      · rw [List.filter_cons_of_neg hk, List.filter_cons_of_neg hk, ih]

/-- A posting keeps the notices of other subjects. -/
theorem mem_queueNotice_of_ne {b : NoticeBody} {n : Notice} {q : List Notice} (hn : n ∈ q)
    (hb : subjectOf n.body ≠ subjectOf b) : n ∈ queueNotice b q := by
  obtain ⟨front, m, back, rfl, hs, -, hnew⟩ | ⟨-, hnew⟩ := queueNotice_cases b q <;> rw [hnew]
  · simp only [List.mem_append, List.mem_cons] at hn ⊢
    obtain hn | rfl | hn := hn
    · exact .inl hn
    · exact absurd hs hb
    · exact .inr (.inr hn)
  · exact List.mem_append_left _ hn

theorem mem_queueNotice_same (b : NoticeBody) (q : List Notice) : ∃ n ∈ queueNotice b q, n.body = b := by
  obtain ⟨front, m, back, -, -, -, hnew⟩ | ⟨-, hnew⟩ := queueNotice_cases b q <;> rw [hnew]
  · exact ⟨_, List.mem_append_right _ List.mem_cons_self, rfl⟩
  · exact ⟨_, List.mem_append_right _ List.mem_cons_self, rfl⟩

/-! ## A re-evaluation -/

section
variable {s t : State}

/-- What a re-evaluation can do to the lists, the claims and the notices: it moves only slots that wait. -/
structure Released (s t : State) : Prop where
  waitList : ∀ j ∈ t.power.waitList, j ∈ s.power.waitList
  rampQueue : ∀ j ∈ t.power.rampQueue, mayRamp s j
  arbiter : ∀ j, t.power.arbiter = some j → s.power.arbiter = some j ∨ mayRamp s j
  arbiterKept : ∀ j, s.power.arbiter = some j → t.power.arbiter = some j
  claims : ∀ j, j ∉ s.power.waitList → (t.pow j).claim = (s.pow j).claim
  notices : ∀ n ∈ s.mgmt.notices, (∀ j, subjectOf n.body = .slot j → ¬ mayRamp s j) → n ∈ t.mgmt.notices

/-- The grants among some of the slots that wait. -/
theorem retryClaims_released (ks : List Slot) (hks : ∀ k ∈ ks, k ∈ s.power.waitList) (u : State) (h : Released s u) :
    Released s (eachSlot ks retryClaim u) := by
  refine eachSlot_keeps (P := Released s) ks (fun k hk v hv => ?_) u h
  unfold retryClaim
  split
  · obtain ⟨hwait, hqueue, harb, hkept, hclaims, hnotices⟩ := hv
    have hmay : mayRamp s k := .inl (hks k hk)
    refine ⟨fun j hj => hwait j (List.mem_of_mem_filter hj), fun j hj => ?_, harb, hkept, fun j hj => ?_, fun n hn hno => ?_⟩
    · obtain hj | hj := List.mem_append.mp (show j ∈ v.power.rampQueue ++ [k] from hj)
      · exact hqueue j hj
      · exact List.mem_singleton.mp hj ▸ hmay
    · have hjk : j ≠ k := by
        rintro rfl
        exact hj (hks j hk)
      rw [grantClaim_pow, if_neg hjk]
      exact hclaims j hj
    · refine mem_queueNotice_of_ne (hnotices n hn hno) fun hsame => ?_
      exact hno k hsame hmay
  · exact hv

theorem reevaluateClaims_released (s : State) : Released s (reevaluateClaims s) := by
  have hrefl : Released s s := ⟨fun _ h => h, fun _ h => .inr h, fun _ h => .inl h, fun _ h => h, fun _ _ => rfl,
    fun _ h _ => h⟩
  have h := retryClaims_released s.power.waitList (fun _ hk => hk) s hrefl
  unfold reevaluateClaims
  obtain ⟨k, rest, hnone, hqueue, hs⟩ | ⟨-, hs⟩ := startRamp_cases (eachSlot s.power.waitList retryClaim s) <;> rw [hs]
  · obtain ⟨hwait, hq, harb, hkept, hclaims, hnotices⟩ := h
    have hmay : mayRamp s k := hq k (by rw [hqueue]; exact List.mem_cons_self)
    refine ⟨hwait, fun j hj => hq j (by rw [hqueue]; exact List.mem_cons_of_mem _ hj), fun j hj => ?_, fun j hj => ?_,
      fun j hj => ?_, fun n hn hno => ?_⟩
    · exact .inr (Option.some.inj (show some k = some j from hj) ▸ hmay)
    · rw [hkept j hj] at hnone; cases hnone
    · rw [← hclaims j hj]
      by_cases hjk : j = k
      · rw [hjk]
        exact (congrArg PowerRecord.claim (look_amend_same _ k _) :)
      · exact congrArg PowerRecord.claim (look_amend_of_ne _ hjk _)
    · exact mem_queueNotice_of_ne (hnotices n hn hno) fun hsame => hno k hsame hmay
  · exact h

/-- Two states that a re-evaluation finds alike in all but what is one slot's own. -/
structure Alike (k : Slot) (s u : State) : Prop where
  power : u.power = s.power
  library : u.library = s.library
  settings : u.settings = s.settings
  slots : ∀ j, j ≠ k → u.slot j = s.slot j
  cycs : ∀ j, j ≠ k → u.cyc j = s.cyc j
  notices : u.mgmt.notices.filter (notOf k) = s.mgmt.notices.filter (notOf k)

theorem Alike.profileOf {k j : Slot} (h : Alike k s t) (hj : j ≠ k) : t.profileOf j = s.profileOf j := by
  unfold State.profileOf State.profile
  rw [h.slots j hj, h.library]

theorem Alike.enterState {k j : Slot} (hj : j ≠ k) (x : SlotState) (h : Alike k s t) :
    Alike k (enterState j x s) (enterState j x t) := by
  refine ⟨h.power, h.library, h.settings, fun i hi => ?_, h.cycs, ?_⟩
  · rw [enterState_slot, enterState_slot, h.slots j hj, h.slots i hi]
  · have hsubject : subjectOf (slotNotice (s.modSlot j fun r => { r with state := x }) j) ≠ .slot k := by
      simp [slotNotice, subjectOf, hj]
    have hbody : slotNotice (t.modSlot j fun r => { r with state := x }) j
        = slotNotice (s.modSlot j fun r => { r with state := x }) j := by
      simp only [slotNotice, State.modSlot_slot_same, h.slots j hj, State.modSlot_cyc, h.cycs j hj]
    show (queueNotice (slotNotice (t.modSlot j fun r => { r with state := x }) j) t.mgmt.notices).filter _
      = (queueNotice (slotNotice (s.modSlot j fun r => { r with state := x }) j) s.mgmt.notices).filter _
    rw [hbody, queueNotice_filter_of_ne hsubject, queueNotice_filter_of_ne hsubject, h.notices]

theorem Alike.grantClaim {k j : Slot} (hj : j ≠ k) (h : Alike k s t) : Alike k (grantClaim j s) (grantClaim j t) := by
  unfold Machine.grantClaim
  refine Alike.enterState hj .rampQueued ⟨?_, h.library, h.settings, fun i hi => ?_, h.cycs, h.notices⟩
  · simp only [State.modSlot_power, State.modPower, State.modPow, h.power, h.profileOf hj, h.slots j hj]
  · simp only [State.modSlot_slot, State.modPower_slot, State.modPow_slot, h.slots i hi, h.slots j hj]

theorem Alike.retryClaim {k j : Slot} (hj : j ≠ k) (h : Alike k s t) : Alike k (retryClaim j s) (retryClaim j t) := by
  have hfits : claimFits t j = claimFits s j := by
    have hsum : sumOfClaims t = sumOfClaims s := by
      simp only [sumOfClaims, State.powerClaim, State.pow, h.power]
    rw [claimFits, claimFits, hsum, h.profileOf hj, h.settings]
  unfold Machine.retryClaim
  rw [hfits]
  split
  · exact h.grantClaim hj
  · exact h

theorem Alike.startRamp {k : Slot} (hk : k ∉ s.power.rampQueue) (h : Alike k s t) :
    Alike k (startRamp s) (startRamp t) := by
  unfold Machine.startRamp
  rw [h.power]
  split
  · rename_i j rest _ hq
    have hj : j ≠ k := fun hjk => hk (by rw [hq, hjk]; exact List.mem_cons_self)
    refine Alike.enterState hj .ramping ⟨?_, h.library, h.settings, fun i hi => ?_, h.cycs, h.notices⟩
    · simp only [State.modPower, State.modPow, h.power, h.profileOf hj]
    · simp only [State.modPower_slot, State.modPow_slot, h.slots i hi]
  · exact h

theorem Alike.retryClaims {k : Slot} (ks : List Slot) (hks : k ∉ ks) (h : Alike k s t) :
    Alike k (eachSlot ks Machine.retryClaim s) (eachSlot ks Machine.retryClaim t) := by
  induction ks generalizing s t with
  | nil => exact h
  | cons j ks ih =>
    obtain ⟨hj, hks⟩ : k ≠ j ∧ k ∉ ks := by simpa using hks
    exact ih hks (h.retryClaim (Ne.symm hj))

theorem Alike.reevaluateClaims {k : Slot} (hw : k ∉ s.power.waitList) (hq : k ∉ s.power.rampQueue) (h : Alike k s t) :
    Alike k (reevaluateClaims s) (reevaluateClaims t) := by
  have hgrants := h.retryClaims s.power.waitList hw
  unfold Machine.reevaluateClaims
  rw [h.power]
  refine hgrants.startRamp fun hk => ?_
  have hrefl : Released s s := ⟨fun _ h => h, fun _ h => .inr h, fun _ h => .inl h, fun _ h => h, fun _ _ => rfl,
    fun _ h _ => h⟩
  obtain hk | hk := (retryClaims_released s.power.waitList (fun _ hk => hk) s hrefl).rampQueue k hk
  · exact hw hk
  · exact hq hk

/-! ## Two states that differ in one slot's own alone -/

/-- Two states alike in all but what is one slot's own: its record, its supply's record, its jobs, its buffers, its
notice, and its place in the power lists. -/
structure Beside (k : Slot) (s u : State) : Prop where
  power : (powerGivenUp k u).power = (powerGivenUp k s).power
  slots : ∀ j, j ≠ k → u.slot j = s.slot j
  cycs : ∀ j, j ≠ k → u.cyc j = s.cyc j
  attempts : ∀ j, j ≠ k → u.attempt j = s.attempt j
  downloads : ∀ j, j ≠ k → u.download j = s.download j
  work : u.service.queue = s.service.queue ∧ u.service.inFlight = s.service.inFlight
    ∧ u.service.segment = s.service.segment
  upstream : upstream u.mgmt = upstream s.mgmt
  outstanding : u.mgmt.outstanding = s.mgmt.outstanding
  notices : u.mgmt.notices.filter (notOf k) = s.mgmt.notices.filter (notOf k)
  tables : u.library = s.library ∧ u.matcher.rules = s.matcher.rules
    ∧ u.matcher.defaultAction = s.matcher.defaultAction ∧ u.settings = s.settings
    ∧ u.mgmt.counters = s.mgmt.counters ∧ u.mgmt.receiver = s.mgmt.receiver
  maps : u.maps = s.maps
  waiting : u.pending = s.pending

theorem Beside.refl (k : Slot) (s : State) : Beside k s s :=
  ⟨rfl, fun _ _ => rfl, fun _ _ => rfl, fun _ _ => rfl, fun _ _ => rfl, ⟨rfl, rfl, rfl⟩, rfl, rfl, rfl,
    ⟨rfl, rfl, rfl, rfl, rfl, rfl⟩, rfl, rfl⟩

theorem Beside.trans {k : Slot} {u : State} (h : Beside k s u) (h' : Beside k u t) : Beside k s t := by
  obtain ⟨hp, hs, hc, ha, hd, ⟨hq, hf, hg⟩, hu, ho, hn, ⟨hl, hr, hda, hset, hcount, hrec⟩, hm, hw⟩ := h
  obtain ⟨hp', hs', hc', ha', hd', ⟨hq', hf', hg'⟩, hu', ho', hn', ⟨hl', hr', hda', hset', hcount', hrec'⟩, hm', hw'⟩ := h'
  exact ⟨hp'.trans hp, fun j hj => (hs' j hj).trans (hs j hj), fun j hj => (hc' j hj).trans (hc j hj),
    fun j hj => (ha' j hj).trans (ha j hj), fun j hj => (hd' j hj).trans (hd j hj),
    ⟨hq'.trans hq, hf'.trans hf, hg'.trans hg⟩, hu'.trans hu, ho'.trans ho, hn'.trans hn,
    ⟨hl'.trans hl, hr'.trans hr, hda'.trans hda, hset'.trans hset, hcount'.trans hcount, hrec'.trans hrec⟩,
    hm'.trans hm, hw'.trans hw⟩

theorem Beside.modSlot (k : Slot) (f : SlotRecord → SlotRecord) (s : State) : Beside k s (s.modSlot k f) :=
  { Beside.refl k s with slots := fun _ hj => State.modSlot_slot_of_ne _ hj _ }

theorem Beside.setAttempt (k : Slot) (a : Option Attempt) (s : State) : Beside k s (s.setAttempt k a) :=
  { Beside.refl k s with attempts := fun _ hj => look_amend_of_ne _ hj _ }

theorem Beside.setDownload (k : Slot) (d : Option Download) (s : State) : Beside k s (s.setDownload k d) :=
  { Beside.refl k s with downloads := fun _ hj => look_amend_of_ne _ hj _ }

theorem Beside.modCyc (k : Slot) (f : CycleSlot → CycleSlot) (s : State) : Beside k s (s.modCyc k f) :=
  { Beside.refl k s with cycs := fun _ hj => look_amend_of_ne _ hj _ }

theorem Beside.postSlotNotice (k : Slot) (s : State) : Beside k s (postSlotNotice k s) :=
  { Beside.refl k s with notices := queueNotice_filter_of_same rfl _ }

theorem Beside.enterState (k : Slot) (x : SlotState) (s : State) : Beside k s (enterState k x s) :=
  (Beside.modSlot k _ s).trans (Beside.postSlotNotice k _)

theorem Beside.alike {k : Slot} (h : Beside k s t) : Alike k (powerGivenUp k s) (powerGivenUp k t) :=
  ⟨h.power, h.tables.1, h.tables.2.2.2.1, h.slots, h.cycs, h.notices⟩

/-! ## Withdrawal -/

theorem upstream_kick {m m' : Management} (h : upstream m = upstream m') :
    upstream (kickUpstream m) = upstream (kickUpstream m') := by
  obtain ⟨ht, hl, hq⟩ : m.transmitter = m'.transmitter ∧ m.returnLine = m'.returnLine ∧ m.replyQueue = m'.replyQueue := by
    simpa [upstream] using h
  unfold kickUpstream startUpstream
  rw [ht, hl, hq]
  split
  · split <;> simp [upstream, *]
  · exact h

theorem upstream_postReply (r : ReplyFrame) {u v : State} (h : upstream u.mgmt = upstream v.mgmt) :
    upstream (postReply r u).mgmt = upstream (postReply r v).mgmt := by
  rw [postReply_mgmt, postReply_mgmt]
  refine upstream_kick ?_
  obtain ⟨ht, hl, hq⟩ : u.mgmt.transmitter = v.mgmt.transmitter ∧ u.mgmt.returnLine = v.mgmt.returnLine
      ∧ u.mgmt.replyQueue = v.mgmt.replyQueue := by simpa [upstream] using h
  simp [upstream, ht, hl, hq]

/-- Deferred replies go upstream like replies of their bytes. -/
theorem upstream_settled (k : Slot) (ps : List PassThrough) (hps : ∀ p ∈ ps, p.slot = k) {u v : State}
    (h : upstream u.mgmt = upstream v.mgmt) :
    upstream (ps.foldl (fun u p => settlePassThrough p ⟨.slotLeft, [slotByte k]⟩ u) u).mgmt
      = upstream ((ps.map slotLeftReply).foldl (fun u r => postReply r u) v).mgmt := by
  induction ps generalizing u v with
  | nil => exact h
  | cons p ps ih =>
    have hreply : (⟨p.tag, p.code, .slotLeft, [slotByte k]⟩ : ReplyFrame) = slotLeftReply p := by
      rw [slotLeftReply, hps p List.mem_cons_self]
      rfl
    refine ih (fun q hq => hps q (List.mem_cons_of_mem _ hq)) ?_
    have hsettle : settlePassThrough p ⟨.slotLeft, [slotByte k]⟩ u = postReply (slotLeftReply p)
        (u.modMgmt fun m => { m with outstanding := m.outstanding.erase p }) := by rw [← hreply]; rfl
    dsimp only
    rw [hsettle]
    exact upstream_postReply _ h

/-- A withdrawal's replies go out after the power of the slot is withdrawn, with nothing upstream changed before. -/
theorem withdraw_mgmt (k : Slot) (u : State) : ∃ v : State, (withdraw k u).mgmt = (dropPassThroughs k v).mgmt
    ∧ v.mgmt = (withdrawPower k (u.setAttempt k none)).mgmt := ⟨_, rfl, rfl⟩

theorem dropPassThroughs_upstream (k : Slot) {u v : State} (hup : upstream u.mgmt = upstream v.mgmt)
    (hout : u.mgmt.outstanding = v.mgmt.outstanding) : upstream (dropPassThroughs k u).mgmt
      = upstream (((v.mgmt.outstanding.filter (·.slot == k)).map slotLeftReply).foldl (fun w r => postReply r w) v).mgmt := by
  rw [dropPassThroughs, hout]
  exact upstream_settled k _ (fun p hp => by simpa using (List.mem_filter.mp hp).2) hup

theorem foldl_settled_same (answer : Answer) (ps : List PassThrough) (s : State) :
    (ps.foldl (fun u p => settlePassThrough p answer u) s).mgmt.counters = s.mgmt.counters
      ∧ (ps.foldl (fun u p => settlePassThrough p answer u) s).mgmt.receiver = s.mgmt.receiver := by
  induction ps generalizing s with
  | nil => exact ⟨rfl, rfl⟩
  | cons p ps ih =>
    obtain ⟨hcount, hrec⟩ := ih (settlePassThrough p answer s)
    rw [List.foldl_cons, hcount, hrec, settlePassThrough_mgmt, kickUpstream_counters]
    exact ⟨rfl, settlePassThrough_receiver ..⟩

/-- The power of a slot withdrawn, in two states alike but for what is the slot's own. -/
theorem Beside.withdrawPower {k : Slot} {u : State} (h : Beside k s u) (hc : (u.pow k).claim = (s.pow k).claim) :
    Alike k (withdrawPower k s) (withdrawPower k u) := by
  obtain ⟨hw, hq⟩ := not_mem_powerGivenUp (s := s) k
  rw [withdrawPower_eq, withdrawPower_eq, hc]
  split
  · exact h.alike.reevaluateClaims hw hq
  · exact h.alike

theorem mayRamp_powerGivenUp {k j : Slot} (h : mayRamp (powerGivenUp k s) j) : mayRamp s j ∧ j ≠ k := by
  obtain h | h := h
  · obtain ⟨hmem, hne⟩ := List.mem_filter.mp h
    exact ⟨.inl hmem, by simpa using hne⟩
  · obtain ⟨hmem, hne⟩ := List.mem_filter.mp h
    exact ⟨.inr hmem, by simpa using hne⟩

theorem powerGivenUp_arbiter {k j : Slot} :
    (powerGivenUp k s).power.arbiter = some j ↔ s.power.arbiter = some j ∧ j ≠ k := by
  show (if s.power.arbiter = some k then none else s.power.arbiter) = some j ↔ _
  split
  · rename_i h
    rw [h]
    constructor
    · intro h; cases h
    · rintro ⟨h, hj⟩; exact absurd (Option.some.inj h).symm hj
  · rename_i h
    exact ⟨fun hj => ⟨hj, by rintro rfl; exact h hj⟩, fun hj => hj.1⟩

/-- A release of power moves only slots that waited before it, and never the slot that is withdrawn. -/
theorem withdrawPower_released (k : Slot) (s : State) : Released (powerGivenUp k s) (withdrawPower k s) := by
  rw [withdrawPower_eq]
  split
  · exact reevaluateClaims_released _
  · exact ⟨fun _ h => h, fun _ h => .inr h, fun _ h => .inl h, fun _ h => h, fun _ _ => rfl, fun _ h _ => h⟩

theorem withdrawPower_pow_of_not_mayRamp {k j : Slot} (h : ¬ mayRamp (powerGivenUp k s) j) :
    (withdrawPower k s).pow j = (powerGivenUp k s).pow j := by
  rw [withdrawPower_eq]
  split
  · exact reevaluateClaims_pow_of_not_mem (fun hw => h (.inl hw)) fun hq => h (.inr hq)
  · rfl

/-- The parts of `Withdrawn` that the power lists and records say. -/
theorem withdrawPower_lists (k : Slot) (s : State) :
    (withdrawPower k s).pow k = { mainSupply := false, claim := none, rampTimer := none, filter := false,
                                  monitoring := false, powerGood := (s.pow k).powerGood }
      ∧ k ∉ (withdrawPower k s).power.waitList ∧ k ∉ (withdrawPower k s).power.rampQueue
      ∧ (withdrawPower k s).power.arbiter ≠ some k := by
  obtain ⟨hwait, hqueue, harb, -, -, -⟩ := withdrawPower_released k s
  obtain ⟨hnw, hnq⟩ := not_mem_powerGivenUp (s := s) k
  have hno : ¬ mayRamp (powerGivenUp k s) k := fun h => (mayRamp_powerGivenUp h).2 rfl
  refine ⟨?_, fun h => hnw (hwait k h), fun h => hno (hqueue k h), fun h => ?_⟩
  · rw [withdrawPower_pow_of_not_mayRamp hno, powerGivenUp_pow, if_pos rfl]
    rfl
  · obtain h | h := harb k h
    · exact (powerGivenUp_arbiter.mp h).2 rfl
    · exact hno h

theorem powerGivenUp_pow_of_ne {k j : Slot} (h : j ≠ k) : (powerGivenUp k s).pow j = s.pow j := by
  rw [powerGivenUp_pow, if_neg h]

theorem service_filter_of_withdraw (x : Option Transaction) (k : Slot) :
    (if x.any (·.slot == k) then none else x) = x.filter (·.slot != k) := by
  cases x with
  | none => rfl
  | some x => by_cases hk : x.slot = k <;> simp [Option.filter, hk]

/-- Withdrawal as `Withdrawn` states it, for a state that the slot's own changes precede and follow. -/
theorem withdraw_withdrawn {k : Slot} {u : State} (hb : Beside k s u) (hc : (u.pow k).claim = (s.pow k).claim)
    (ht : Beside k (withdraw k u) t) (hpower : t.power = (withdraw k u).power) (hatt : t.attempt k = none)
    (hdl : t.download k = none) : Withdrawn k s t := by
  have hw : Beside k s (u.setAttempt k none) := hb.trans (Beside.setAttempt k none u)
  have hal : Alike k (withdrawPower k s) (withdrawPower k (u.setAttempt k none)) := hw.withdrawPower hc
  have hwpower : (withdraw k u).power = (withdrawPower k (u.setAttempt k none)).power := by
    rw [withdraw, withdrawMaps_power, withdrawService_power]
    rfl
  have hwslot : ∀ j, j ≠ k → (withdraw k u).slot j = (withdrawPower k (u.setAttempt k none)).slot j := fun j hj => by
    rw [withdraw, State.slot, withdrawMaps_slots, withdrawService_slots]
    exact State.modSlot_slot_of_ne _ hj _
  have htpower : t.power = (withdrawPower k s).power := hpower.trans (hwpower.trans hal.power)
  have htpow : ∀ j, t.pow j = (withdrawPower k s).pow j := fun j =>
    congrArg (fun p : PowerController => look p.slots j) htpower
  have htslot : ∀ j, j ≠ k → t.slot j = (withdrawPower k s).slot j := fun j hj =>
    (ht.slots j hj).trans ((hwslot j hj).trans (hal.slots j hj))
  obtain ⟨v, hv, hvm⟩ := withdraw_mgmt k u
  have hmuted : v.mgmt.muted = u.mgmt.muted := by rw [hvm]; exact withdrawPower_muted _ k
  have hvup : upstream v.mgmt = upstream s.mgmt :=
    (congrArg upstream hmuted).trans hb.upstream
  have hvout : v.mgmt.outstanding = s.mgmt.outstanding := (congrArg Management.outstanding hmuted).trans hb.outstanding
  obtain ⟨hpow, hlw, hlq, hla⟩ := withdrawPower_lists k s
  have hrel := withdrawPower_released k s
  have hservice : (withdraw k u).service = _ := (withdraw_service u k).trans (withdrawService_service u k)
  have hnotices : t.mgmt.notices.filter (notOf k) = (withdrawPower k s).mgmt.notices.filter (notOf k) := by
    rw [ht.notices, hv, dropPassThroughs_notices, hvm]
    exact hal.notices
  constructor
  case power => rw [htpow]; exact hpow
  case powerLists => rw [htpower]; exact ⟨hlw, hlq, hla⟩
  case noRelease =>
    intro hnone
    have hgiven : withdrawPower k s = powerGivenUp k s := by rw [withdrawPower_eq, hnone]; rfl
    rw [htpower, hgiven]
    exact ⟨rfl, rfl, fun j hj => ⟨by rw [htpow, hgiven, powerGivenUp_pow_of_ne hj], by rw [htslot j hj, hgiven]; rfl⟩⟩
  case release =>
    intro hsome
    have hgiven : withdrawPower k s = reevaluateClaims (powerGivenUp k s) := by rw [withdrawPower_eq, if_pos hsome]
    rw [htpower, ← hgiven]
    exact ⟨rfl, htslot⟩
  case otherPower =>
    intro j hj
    refine ⟨fun hjw => ?_, fun hno => ?_, fun harb => ?_⟩
    · rw [htpow, hrel.claims j fun h => hjw (List.mem_of_mem_filter h), powerGivenUp_pow_of_ne hj]
    · rw [htpow, withdrawPower_pow_of_not_mayRamp fun h => hno (mayRamp_powerGivenUp h).1, powerGivenUp_pow_of_ne hj]
    · rw [htpower]
      exact hrel.arbiterKept j (powerGivenUp_arbiter.mpr ⟨harb, hj⟩)
  case otherSlots =>
    intro j hj
    rw [htslot j hj]
    obtain h | ⟨hwait, x, -, h⟩ | ⟨hqueue, h⟩ := (withdrawPower_slot (s := s) j k).2 <;> rw [h]
    · exact ⟨⟨_, _, rfl⟩, fun _ => rfl⟩
    · exact ⟨⟨_, _, rfl⟩, fun hno => absurd (.inl hwait) hno⟩
    · exact ⟨⟨_, _, rfl⟩, fun hno => absurd (.inr hqueue) hno⟩
  case attempt =>
    refine ⟨hatt, fun j hj => ?_⟩
    rw [ht.attempts j hj, withdraw_attempt, if_neg hj, hb.attempts j hj]
  case download =>
    refine ⟨hdl, fun j hj => ?_⟩
    rw [ht.downloads j hj, withdraw_download, if_neg hj, hb.downloads j hj]
  case service =>
    obtain ⟨hqueue, hflight, hsegment⟩ := ht.work
    obtain ⟨hqueue', hflight', hsegment'⟩ := hb.work
    rw [hqueue, hflight, hsegment, hservice]
    dsimp only
    rw [hqueue', hflight', hsegment', service_filter_of_withdraw]
    exact ⟨rfl, rfl, rfl⟩
  case outstanding => rw [ht.outstanding, hv, dropPassThroughs_outstanding, hvout]
  case replies => rw [ht.upstream, hv, dropPassThroughs_upstream k hvup hvout]
  case mapLists =>
    rw [ht.maps, withdraw_maps, hb.maps]
    refine ⟨rfl, ?_⟩
    have hwants : wantsDrop s.maps k = true ↔
        (∃ e ∈ (s.maps.offered.getD s.maps.active).entries, e.slot = k) ∧ Change.drop k ∉ s.maps.changes := by
      simp [wantsDrop, newestMap]
    simp only [hwants]
  case maps => rw [ht.maps, withdraw_maps, hb.maps]; exact ⟨rfl, rfl, rfl⟩
  case notices =>
    intro n hn hother
    have hne : notOf k n = true := by
      unfold notOf
      rw [bne_iff_ne]
      exact fun h => (hother k h).1 rfl
    have hmem : n ∈ (withdrawPower k s).mgmt.notices :=
      hrel.notices n hn fun j hj hmay => (hother j hj).2 (mayRamp_powerGivenUp hmay).1
    have hfilter := List.mem_filter.mpr ⟨hmem, hne⟩
    rw [← hnotices] at hfilter
    exact (List.mem_filter.mp hfilter).1
  case otherNotices =>
    refine hnotices.trans ?_
    rw [withdrawPower_eq]
    split <;> rfl
  case tables =>
    obtain ⟨hl, hr, hda, hset, hcount, hrec⟩ := ht.tables
    obtain ⟨hl', hr', hda', hset', hcount', hrec'⟩ := hb.tables
    have hmatcher := withdraw_matcher u k
    have hmgmt := hv
    obtain ⟨hdc, hdr⟩ := foldl_settled_same ⟨.slotLeft, [slotByte k]⟩ (v.mgmt.outstanding.filter (·.slot == k)) v
    have hvc : (dropPassThroughs k v).mgmt.counters = u.mgmt.counters :=
      hdc.trans (congrArg (fun m : Management => m.counters) hmuted :)
    have hvr : (dropPassThroughs k v).mgmt.receiver = u.mgmt.receiver :=
      hdr.trans (congrArg (fun m : Management => m.receiver) hmuted :)
    refine ⟨?_, ?_, ?_, ?_, ?_, ?_⟩
    · rw [hl, withdraw_library, hl']
    · rw [hr, hmatcher]; exact hr'
    · rw [hda, hmatcher]; exact hda'
    · rw [hset, sets_of_fixtures (fixtures_withdraw u k), hset']
    · rw [hcount, hv, hvc, hcount']
    · rw [hrec, hv, hvr, hrec']
  case waiting => rw [ht.waiting, withdraw_pending, hb.waiting]

end

end Sys2Proof.Machine
end

section
/-!
PROOF. Fault entry (R9), the reports that lead to it, "card gone" and a stop, each by what a withdrawal leaves.
-/
namespace Sys2Proof.Machine

/-! ## Fault entry -/

section
variable {k : Slot} {s u : State}

/-- Two states alike but for the slot's jobs, its supply's timers and its buffers, whose record and claim are the same. -/
structure Awaiting (k : Slot) (s u : State) : Prop where
  beside : Beside k s u
  claim : (u.pow k).claim = (s.pow k).claim
  slots : u.slots = s.slots
  presence : u.presence = s.presence
  cycle : u.cycle = s.cycle

theorem Awaiting.refl (k : Slot) (s : State) : Awaiting k s s := ⟨Beside.refl k s, rfl, rfl, rfl, rfl⟩

theorem Awaiting.setAttempt (a : Option Attempt) (h : Awaiting k s u) : Awaiting k s (u.setAttempt k a) :=
  ⟨h.beside.trans (Beside.setAttempt k a u), h.claim, h.slots, h.presence, h.cycle⟩

theorem Awaiting.setDownload (d : Option Download) (h : Awaiting k s u) : Awaiting k s (u.setDownload k d) :=
  ⟨h.beside.trans (Beside.setDownload k d u), h.claim, h.slots, h.presence, h.cycle⟩

/-- The filter of a supply goes with the rest of what the slot holds. -/
theorem Awaiting.filterStopped (k : Slot) (s : State) :
    Awaiting k s (s.modPow k fun r => { r with filter := false }) := by
  refine ⟨{ Beside.refl k s with power := ?_ }, by rw [State.modPow_pow_same], rfl, rfl, rfl⟩
  have hslots : (powerGivenUp k (s.modPow k fun r => { r with filter := false })).power.slots
      = (powerGivenUp k s).power.slots := by
    simp only [powerGivenUp, State.modPow, State.modPower, amend, look, Vector.set_set, Vector.getElem_set_self]
  simp only [powerGivenUp] at hslots ⊢
  rw [hslots]
  rfl

theorem subjectOf_slotNotice (s : State) (k : Slot) : subjectOf (slotNotice s k) = .slot k := rfl

/-- The state that fault entry gives a slot is FAULTED or QUARANTINED. -/
theorem faultedRecord_state (reason : FaultReason) (code : Option Byte) (r : SlotRecord) :
    (faultedRecord reason code r).state = .faulted ∨ (faultedRecord reason code r).state = .quarantined := by
  unfold faultedRecord
  dsimp only
  split
  · exact .inr rfl
  · exact .inl rfl

theorem withdraw_slot_faultEntry (k : Slot) (reason : FaultReason) (code : Option Byte) (u : State) :
    Beside k (withdraw k u) (faultEntry k reason code u) :=
  (Beside.modSlot k _ _).trans (Beside.postSlotNotice k _)

/-- Fault entry, for a state in which the report has ended the slot's job first (R9). -/
theorem Awaiting.faultEntered (h : Awaiting k s u) (reason : FaultReason) (code : Option Byte) :
    FaultEntered k reason code s (faultEntry k reason code u) := by
  have hslot : u.slot k = s.slot k := slot_of_slots h.slots k
  have hrecord := faultEntry_slot_same (s := u) k reason code
  rw [hslot] at hrecord
  have hcyc : ∀ v : State, v.cycle = s.cycle → v.cyc k = s.cyc k := fun v hv =>
    congrArg (fun c : CycleEngine => look c.slots k) hv
  constructor
  case withdrawn =>
    refine withdraw_withdrawn h.beside h.claim (withdraw_slot_faultEntry k reason code u) rfl ?_ ?_
    · exact (withdraw_attempt k k u).trans (if_pos rfl)
    · exact (withdraw_download k k u).trans (if_pos rfl)
  case record => exact hrecord
  case presence => rw [faultEntry_presence, h.presence]
  case cycle => rw [faultEntry_cycle, h.cycle]
  case notice =>
    obtain ⟨n, hn, hbody⟩ := mem_queueNotice_same (slotNotice (faultEntry k reason code u) k) (withdraw k u).mgmt.notices
    refine ⟨n, hn, ?_⟩
    have hfault : (faultEntry k reason code u).cyc k = s.cyc k := hcyc _ (by rw [faultEntry_cycle, h.cycle])
    have hstate := faultedRecord_state reason code (s.slot k)
    rw [hbody, slotNotice, hfault, hrecord]
    rw [if_pos hstate]
    rfl

/-- A report that its slot takes is fault entry (R5, R10). -/
theorem Awaiting.reported (h : Awaiting k s u) {e : Epoch} (reason : FaultReason) (code : Option Byte)
    (ht : reason.takenIn (s.slot k).state = true) (he : e = (s.slot k).epoch) :
    FaultEntered k reason code s (reportFault k e reason code u) := by
  have hslot : u.slot k = s.slot k := slot_of_slots h.slots k
  obtain ⟨-, -, hr⟩ | ⟨hno, -⟩ := reportFault_cases u k e reason code
  · rw [hr]
    exact h.faultEntered reason code
  · rw [hslot] at hno
    obtain hno | hno := hno
    · rw [ht] at hno; cases hno
    · exact absurd he.symm hno

end

/-! ## The supply's faults and the filter (O20) -/

/-- Settles O20: each report is fault entry from the state its event has left; the filter follows the line. -/
theorem supplyFaultsAndFilter : Obligations.SupplyFaultsAndFilter := by
  unfold Obligations.SupplyFaultsAndFilter
  refine ⟨fun k s => ⟨?_, ?_, ?_⟩, fun k s => ⟨?_, ?_⟩⟩
  · intro c ht hg hstate hc he
    refine ⟨rampBad k s, ?_, ?_⟩
    · have htaken : rampEndTaken k s = true := (rampEndTaken_iff s k).mpr ⟨hstate, c, hc, he⟩
      simp only [exec, execRampEnd, ht, htaken, hg, if_true]
      rfl
    · simp only [rampBad, hc]
      exact (Awaiting.refl k s).reported _ _ (by rw [hstate]; rfl) he
  · intro c hf hm hc he
    refine ⟨_, by simp only [exec, execPowerGoodFilterExpiry, hf, if_true, hc]; rfl, ?_⟩
    exact (Awaiting.filterStopped k s).reported _ _ hm he
  · intro d hd he hstate
    refine ⟨_, by simp only [exec, execConfigurationTimeout, hd]; rfl, ?_⟩
    exact ((Awaiting.refl k s).setDownload none).reported _ _ (by rw [hstate]; rfl) he
  · have hrecord : (fun r : PowerRecord => { r with powerGood := false, filter := r.filter || r.monitoring })
        = fun r => { r with powerGood := false, filter := if r.monitoring then true else r.filter } :=
      funext fun r => by cases hm : r.monitoring <;> simp
    simp only [exec, execPowerGoodDeasserted, hrecord]
    rfl
  · have hrecord : (fun r : PowerRecord => { r with powerGood := true, filter := r.filter && !r.monitoring })
        = fun r => { r with powerGood := true, filter := if r.monitoring then false else r.filter } :=
      funext fun r => by cases hm : r.monitoring <;> simp
    simp only [exec, execPowerGoodAsserted, hrecord]
    rfl

/-! ## "Card gone" (O18) -/

section
variable {s : State}

/-- A posting of another subject neither adds nor removes a notice. -/
theorem mem_queueNotice_iff {b : NoticeBody} {n : Notice} (h : subjectOf n.body ≠ subjectOf b) (q : List Notice) :
    n ∈ queueNotice b q ↔ n ∈ q := by
  induction q with
  | nil => simpa [queueNotice] using fun hn : n = _ => h (by rw [hn])
  | cons m q ih =>
    rw [queueNotice]
    split
    · rename_i hm
      have hnm : n ≠ m := fun hn => h (by rw [hn, hm])
      have hnb : n ≠ ⟨min 255 (m.count + 1), b⟩ := fun hn => h (by rw [hn])
      simp [hnm, hnb]
    · rw [List.mem_cons, List.mem_cons, ih]

/-- A re-evaluation posts no notice of a slot that does not wait. -/
theorem reevaluateClaims_notices_of_not_mayRamp {k : Slot} {n : Notice} (hn : subjectOf n.body = .slot k)
    (hk : ¬ mayRamp s k) : n ∈ (reevaluateClaims s).mgmt.notices ↔ n ∈ s.mgmt.notices := by
  have hne : ∀ (v : State) (j : Slot), j ≠ k → subjectOf n.body ≠ subjectOf (slotNotice v j) := fun v j hj h =>
    hj (Subject.slot.inj (hn.symm.trans h)).symm
  have hgrants : n ∈ (eachSlot s.power.waitList retryClaim s).mgmt.notices ↔ n ∈ s.mgmt.notices := by
    refine eachSlot_keeps (P := fun v => n ∈ v.mgmt.notices ↔ n ∈ s.mgmt.notices) _ (fun j hj v hv => ?_) s Iff.rfl
    unfold retryClaim
    split
    · refine (mem_queueNotice_iff (hne _ j ?_) _).trans hv
      rintro rfl
      exact hk (.inl hj)
    · exact hv
  have hrefl : Released s s := ⟨fun _ h => h, fun _ h => .inr h, fun _ h => .inl h, fun _ h => h, fun _ _ => rfl,
    fun _ h _ => h⟩
  unfold reevaluateClaims
  obtain ⟨j, rest, -, hqueue, hs⟩ | ⟨-, hs⟩ := startRamp_cases (eachSlot s.power.waitList retryClaim s) <;> rw [hs]
  · refine (mem_queueNotice_iff (hne _ j ?_) _).trans hgrants
    rintro rfl
    exact hk ((retryClaims_released _ (fun _ h => h) s hrefl).rampQueue j (by rw [hqueue]; exact List.mem_cons_self))
  · exact hgrants

/-- A withdrawal posts no notice of its own slot. -/
theorem withdraw_notices_of_slot {k : Slot} {n : Notice} (hn : subjectOf n.body = .slot k) (u : State) :
    n ∈ (withdraw k u).mgmt.notices ↔ n ∈ u.mgmt.notices := by
  obtain ⟨v, hv, hvm⟩ := withdraw_mgmt k u
  rw [hv, dropPassThroughs_notices, hvm, withdrawPower_eq]
  split
  · exact reevaluateClaims_notices_of_not_mayRamp (s := powerGivenUp k (u.setAttempt k none)) hn
      fun h => (mayRamp_powerGivenUp h).2 rfl
  · exact Iff.rfl

theorem Beside.emptySlot (k : Slot) (u : State) : Beside k u (emptySlot k u) := by
  unfold Machine.emptySlot
  split
  · exact Beside.modSlot k _ u
  · exact (Beside.modSlot k _ u).trans (Beside.enterState k _ _)

theorem emptySlot_notices_of_quarantined {k : Slot} {u : State} (h : (u.slot k).state = .quarantined) :
    (emptySlot k u).mgmt.notices = u.mgmt.notices := by
  rw [emptySlot, if_pos h]
  rfl

theorem emptySlot_notices {k : Slot} {u : State} (h : (u.slot k).state ≠ .quarantined) :
    (emptySlot k u).mgmt.notices = queueNotice (.slot k .empty (u.slot k).epoch none (u.cyc k).cardDiag) u.mgmt.notices := by
  have hbody : slotNotice (emptySlot k u) k = .slot k .empty (u.slot k).epoch none (u.cyc k).cardDiag := by
    have hslot := emptySlot_slot (s := u) k k
    rw [if_pos rfl, if_neg h] at hslot
    have hcyc : (emptySlot k u).cyc k = u.cyc k := by rw [emptySlot, if_neg h]; rfl
    rw [slotNotice, hslot, hcyc]
    simp
  rw [← hbody]
  rw [emptySlot, if_neg h]
  rfl

/-- Settles O18: the record is emptied, and then every block gives back what it held. -/
theorem removalEmptiesSlot : Obligations.RemovalEmptiesSlot := by
  unfold Obligations.RemovalEmptiesSlot
  intro k s d htimer hempty hsettling
  let u := s.modPres k fun r => { r with phase := .absent, timer := .stopped, auxSupply := false }
  have hcard : (s.slot k).state.takesCardGone = true := by
    cases h : (s.slot k).state <;> first | rfl | exact absurd h hempty | exact absurd h hsettling
  have hgone : exec (.removalDebounceExpiry k) s = .next (withdraw k (emptySlot k u)) := by
    simp only [exec, execRemovalDebounceExpiry, htimer, cardGone, State.modPres_slot, hcard, if_true]
    rfl
  have hbeside : Beside k s u := { Beside.refl k s with }
  have hslot : (withdraw k (emptySlot k u)).slot k = { (emptySlot k u).slot k with parkReason := none } :=
    withdraw_slot_same k
  rw [emptySlot_slot, if_pos rfl, show u.slot k = s.slot k from rfl] at hslot
  have hpresence : (emptySlot k u).presence = u.presence := by unfold emptySlot; split <;> rfl
  have hcycle : (emptySlot k u).cycle = u.cycle := by unfold emptySlot; split <;> rfl
  have hpower : (emptySlot k u).power = s.power := by unfold emptySlot; split <;> rfl
  refine ⟨_, hgone, ?_, ?_, ?_, fun hq => ⟨?_, ?_⟩, fun hq => ⟨?_, ?_⟩⟩
  · refine withdraw_withdrawn (hbeside.trans (Beside.emptySlot k u)) ?_ (Beside.refl k _) rfl ?_ ?_
    · rw [State.pow, State.pow, hpower]
    · exact (withdraw_attempt k k _).trans (if_pos rfl)
    · exact (withdraw_download k k _).trans (if_pos rfl)
  · rw [withdraw_presence, hpresence]
    rfl
  · rw [withdraw_cycle, hcycle]
    rfl
  · rw [hslot, if_neg hq]
  · obtain ⟨n, hn, hbody⟩ := mem_queueNotice_same (.slot k .empty (s.slot k).epoch none (s.cyc k).cardDiag) s.mgmt.notices
    refine ⟨n, (withdraw_notices_of_slot (by rw [hbody]; rfl) _).mpr ?_, hbody⟩
    rw [emptySlot_notices (u := u) hq]
    exact hn
  · rw [hslot, if_pos hq]
  · intro n hn
    rw [withdraw_notices_of_slot hn, emptySlot_notices_of_quarantined (u := u) hq]
    rfl

end

end Sys2Proof.Machine
end

section
/-!
PROOF. Requests served with a place free, moves of one slot's record with its notice, and the obligations on presence
and the slot requests that are such moves.
-/
namespace Sys2Proof.Machine

/-! ## One entry of a table -/

theorem amend_amend {α : Type} {n : Nat} (t : Vector α n) (k : Fin n) (f g : α → α) :
    amend (amend t k f) k g = amend t k fun a => g (f a) := by
  simp [amend, look, Vector.set_set]

theorem amend_congr {α : Type} {n : Nat} {t : Vector α n} {k : Fin n} {f g : α → α} (h : f (look t k) = g (look t k)) :
    amend t k f = amend t k g := by
  rw [amend, amend, h]

theorem amend_eq_self {α : Type} {n : Nat} {t : Vector α n} {k : Fin n} {f : α → α} (h : f (look t k) = look t k) :
    amend t k f = t := by
  rw [amend, h]
  simp [look]

/-! ## Bytes that stand for values (R192) -/

theorem toNat_byteOf {n : Nat} (h : n < 256) : (byteOf n).toNat = n := by
  rw [byteOf, BitVec.toNat_ofNat]
  exact Nat.mod_eq_of_lt h

@[simp] theorem slotOf_slotByte (k : Slot) : slotOf (slotByte k) = some k := by
  have hk := k.isLt
  have hbyte : (slotByte k).toNat = k.val + 1 := toNat_byteOf (by rw [slotNumber]; omega)
  rw [slotOf, dif_pos (by omega)]
  simp [hbyte]

@[simp] theorem slotArgs_slotByte (k : Slot) : slotArgs [slotByte k] = some k := slotOf_slotByte k

@[simp] theorem modeOf_modeByte (m : Mode) : modeOf (modeByte m) = some m := by cases m <;> rfl

/-! ## A request with a place free (R173, R175) -/

theorem takeRequest_of_free {s t : State} {a : Answer} {serve : State → State × Option Answer} (h : placeFree s)
    (hs : serve s = (t, some a)) (tag code : Byte) :
    takeRequest tag code serve s = postReply ⟨tag, code, a.result, a.contents⟩ t := by
  rw [takeRequest, if_neg (show ¬ Config.replyPlaces ≤ placesTaken s.mgmt from Nat.not_le.mpr h), hs]

theorem takeRequest_of_outstanding {s t : State} {serve : State → State × Option Answer} (h : placeFree s)
    (hs : serve s = (t, none)) (tag code : Byte) : takeRequest tag code serve s = t := by
  rw [takeRequest, if_neg (show ¬ Config.replyPlaces ≤ placesTaken s.mgmt from Nat.not_le.mpr h), hs]

/-- A request that its block serves with DONE. -/
theorem exec_done_of_free {s t : State} {contents : List Byte} {serve : State → State × Option Answer} (h : placeFree s)
    (hs : serve s = (t, some (done contents))) (tag code : Byte) :
    takeRequest tag code serve s = postReply ⟨tag, code, .done, contents⟩ t := takeRequest_of_free h hs tag code

theorem refused_of_free {s : State} {r : Reason} {serve : State → State × Option Answer} (h : placeFree s)
    (hs : serve s = refusal r s) (tag code : Byte) :
    takeRequest tag code serve s = postReply ⟨tag, code, .refused r, []⟩ s := takeRequest_of_free h hs tag code

/-! ## A slot enters a state -/

/-- A slot's entry into a state that bears no fault, in full (R7). -/
theorem enterState_eq {x : SlotState} (hf : x ≠ .faulted) (hq : x ≠ .quarantined) (k : Slot) (s : State) :
    enterState k x s = { s with
      slots := amend s.slots k fun r => { r with state := x }
      mgmt := { s.mgmt with
        notices := queueNotice (.slot k x (s.slot k).epoch none (s.cyc k).cardDiag) s.mgmt.notices } } := by
  have hbody : slotNotice (s.modSlot k fun r => { r with state := x }) k
      = .slot k x (s.slot k).epoch none (s.cyc k).cardDiag := by
    rw [slotNotice, State.modSlot_slot_same]
    simp only [hf, hq, or_self, if_false]
    rfl
  rw [enterState, postSlotNotice, hbody]
  rfl

/-- A slot's entry into IDENTIFYING, in full (R6, R7, R40). -/
theorem enterIdentifying_eq (k : Slot) (s : State) :
    enterIdentifying k s = { s with
      slots := amend s.slots k fun r => { r with state := .identifying }
      matcher := { s.matcher with attempts := amend s.matcher.attempts k fun _ => some ⟨(s.slot k).epoch, 1⟩ }
      service := { s.service with queue := s.service.queue ++ [identRead k (s.slot k).epoch] }
      mgmt := { s.mgmt with
        notices := queueNotice (.slot k .identifying (s.slot k).epoch none (s.cyc k).cardDiag) s.mgmt.notices } } := by
  rw [enterIdentifying, enterState_eq (by decide) (by decide)]
  rfl

/-! ## Presence (O16, O17) -/

/-- Settles O16: one equation for each phase. -/
theorem presenceLineMovesPhase : Obligations.PresenceLineMovesPhase := by
  unfold Obligations.PresenceLineMovesPhase
  intro k s
  refine ⟨fun hp he => ?_, fun hp he => ?_, fun hp => ?_, fun hp => ?_, fun hp => ?_, fun hp => ?_, fun hp => ?_⟩
  · simp only [exec, execPresenceLineAsserted, lineAsserted, hp, he, if_true,
      enterState_eq (x := .settling) (by decide) (by decide)]
    rfl
  · simp only [exec, execPresenceLineAsserted, lineAsserted, hp, he, if_false]
    rfl
  · simp only [exec, execPresenceLineAsserted, lineAsserted, hp]
    rfl
  · obtain hp | hp := hp <;> simp only [exec, execPresenceLineAsserted, lineAsserted, hp] <;> rfl
  · by_cases hs : (s.slot k).state = .settling
    · have hslots : (amend s.slots k fun r => { r with state := .empty })
          = amend s.slots k fun r => { r with state := if r.state = .settling then .empty else r.state } :=
        amend_congr (by rw [show (look s.slots k).state = .settling from hs]; rfl)
      simp only [exec, execPresenceLineDeasserted, lineDeasserted, hp, hs, if_true, ← hslots]
      rfl
    · have hslots : (amend s.slots k fun r => { r with state := if r.state = .settling then .empty else r.state })
          = s.slots := amend_eq_self (by
            rw [show (if (look s.slots k).state = .settling then SlotState.empty else (look s.slots k).state)
              = (look s.slots k).state from if_neg hs])
      simp only [exec, execPresenceLineDeasserted, lineDeasserted, hp, hs, if_false, hslots]
      rfl
  · simp only [exec, execPresenceLineDeasserted, lineDeasserted, hp]
    rfl
  · obtain hp | hp := hp <;> simp only [exec, execPresenceLineDeasserted, lineDeasserted, hp] <;> rfl

/-- The state in which the sequencer takes a settled card (R31). -/
def cardSeated (k : Slot) (s : State) : State :=
  { s with
    presence := amend s.presence k fun r => { r with phase := .seated, timer := .stopped, auxSupply := true }
    slots := amend s.slots k fun r => { r with epoch := r.epoch + 1, cardPresent := true } }

theorem cardSeated_slot (k : Slot) (s : State) : (cardSeated k s).slot k =
    { s.slot k with epoch := (s.slot k).epoch + 1, cardPresent := true } := look_amend_same ..

/-- INSERTION_DEBOUNCE_EXPIRY with the slot's epoch, in a state that takes the card (R31). -/
theorem execInsertionDebounceExpiry_of_current {k : Slot} {s : State} {d : Nat}
    (ht : (s.pres k).timer = .insertion d (s.slot k).epoch)
    (hs : (s.slot k).state = .settling ∨ (s.slot k).state = .quarantined) :
    exec (.insertionDebounceExpiry k) s = .next
      (if (s.slot k).state = .settling then admissionGate k (enterState k .present (cardSeated k s))
        else cardSeated k s) := by
  have hseated : (((s.modPres k fun r => { r with phase := .seated, timer := .stopped }).modSlot k fun r =>
      { r with epoch := r.epoch + 1, cardPresent := true }).modPres k fun r => { r with auxSupply := true })
        = cardSeated k s := by
    simp only [cardSeated, State.modPres, State.modSlot, amend_amend]
  simp only [exec, execInsertionDebounceExpiry, ht, cardArrived, State.modPres_slot, current, beq_self_eq_true, and_true,
    hs, if_true, hseated]

/-- Settles O17: a settled card in SETTLING meets the gate; in QUARANTINED the state stays. -/
theorem insertionSettlesCard : Obligations.InsertionSettlesCard := by
  unfold Obligations.InsertionSettlesCard
  intro k s d ht
  have hslot : (enterState k .present (cardSeated k s)).slot k
      = { s.slot k with epoch := (s.slot k).epoch + 1, cardPresent := true, state := .present } := by
    rw [enterState_slot_same, cardSeated_slot]
  refine ⟨fun hs hgate => ?_, fun hs hmode hopen => ?_, fun hs => ?_⟩
  · rw [execInsertionDebounceExpiry_of_current ht (.inl hs), if_pos hs, admissionGate, if_neg, enterState_eq (by decide)
      (by decide), cardSeated_slot]
    · simp only [cardSeated, amend_amend]
      rfl
    · rw [hslot]
      exact fun h => hgate ⟨h.2.1, h.2.2⟩
  · rw [execInsertionDebounceExpiry_of_current ht (.inl hs), if_pos hs, admissionGate,
      if_pos ⟨by rw [hslot], by rw [hslot]; exact hmode, hopen⟩, enterIdentifying_eq, hslot, enterState_eq (by decide)
      (by decide), cardSeated_slot]
    simp only [cardSeated, amend_amend]
    rfl
  · rw [execInsertionDebounceExpiry_of_current ht (.inr hs), if_neg (by rw [hs]; decide)]
    rfl

/-! ## The slot requests (O48 to O50) -/

theorem clearedState_eq {s : State} {k : Slot} {x : SlotState}
    (h : ((s.slot k).cardPresent = true ∧ x = .present)
      ∨ ((s.slot k).cardPresent = false ∧ (s.pres k).phase = .inserting ∧ x = .settling)
      ∨ ((s.slot k).cardPresent = false ∧ (s.pres k).phase ≠ .inserting ∧ x = .empty)) : clearedState s k = x := by
  unfold clearedState
  obtain ⟨hc, rfl⟩ | ⟨hc, hp, rfl⟩ | ⟨hc, hp, rfl⟩ := h
  · simp [hc]
  · simp [hc, hp]
  · simp [hc, hp]

/-- Settles O48: the mode alone, the mode through the gate, and a start. -/
theorem slotModeAndStart : Obligations.SlotModeAndStart := by
  unfold Obligations.SlotModeAndStart
  intro tag k m s hfree
  have hmodeServe : serveSlotMode [slotByte k, modeByte m] s = slotDone k (setMode k m s) := by
    simp only [serveSlotMode, slotModeArgs, slotOf_slotByte, modeOf_modeByte]
    rfl
  have hmode : exec (.slotMode tag [slotByte k, modeByte m]) s = .next (postReply ⟨tag, 16, .done,
      slotReplyBytes k ((setMode k m s).slot k)⟩ (setMode k m s)) :=
    congrArg Host.Outcome.next (exec_done_of_free hfree hmodeServe tag 16)
  have hslot : (s.modSlot k fun r => { r with mode := m }).slot k = { s.slot k with mode := m } :=
    State.modSlot_slot_same ..
  refine ⟨fun hm => ?_, fun hm hgate => ?_, fun hm hauto hp ha => ?_, fun hp hb => ?_, fun hno => ?_⟩
  · rw [hmode, setMode, if_pos hm]
    rfl
  · have hset : setMode k m s = s.modSlot k fun r => { r with mode := m } := by
      simp only [setMode, if_neg hm]
      split
      · rename_i hauto
        rw [admissionGate, if_neg]
        rw [hslot]
        exact fun h => hgate ⟨hauto, h.1, h.2.2⟩
      · rfl
    rw [hmode, hset]
    rfl
  · have hset : setMode k m s = enterIdentifying k (s.modSlot k fun r => { r with mode := m }) := by
      simp only [setMode, if_neg hm, if_pos hauto]
      rw [admissionGate, if_pos]
      rw [hslot]
      exact ⟨hp, hauto, ha⟩
    rw [hmode, hset, enterIdentifying_eq, hslot]
    subst hauto
    simp only [State.modSlot, amend_amend]
    rfl
  · have hserve : serveSlotStart [slotByte k] s = slotDone k (enterIdentifying k s) := by
      simp only [serveSlotStart, slotArgs_slotByte, if_pos (And.intro hp hb)]
    have hstart : exec (.slotStart tag [slotByte k]) s = .next (postReply ⟨tag, 17, .done,
        slotReplyBytes k ((enterIdentifying k s).slot k)⟩ (enterIdentifying k s)) :=
      congrArg Host.Outcome.next (exec_done_of_free hfree hserve tag 17)
    have hslots : (amend s.slots k fun r => { r with mode := (s.slot k).mode, state := .identifying })
        = amend s.slots k fun r => { r with state := .identifying } := amend_congr rfl
    rw [hstart, enterIdentifying_eq, ← hslots]
    rfl
  · have hserve : serveSlotStart [slotByte k] s = refusal .wrongState s := by
      simp only [serveSlotStart, slotArgs_slotByte]
      rw [if_neg]
      rintro ⟨hp, hb⟩
      obtain h | h := hno
      · exact h hp
      · exact hb h
    exact congrArg Host.Outcome.next (refused_of_free hfree hserve tag 17)

/-- Settles O49: a withdrawal, the record and the notice. -/
theorem slotStopWithdraws : Obligations.SlotStopWithdraws := by
  unfold Obligations.SlotStopWithdraws
  intro tag k s hfree
  have hiff := stoppable_iff (s.slot k).state
  simp only [not_or] at hiff
  refine ⟨fun hstop => ⟨stopSlot k s, ?_, ?_, ?_, ?_, ?_, ?_⟩, fun hstop => ?_⟩
  · have hserve : serveSlotStop [slotByte k] s = slotDone k (stopSlot k s) := by
      simp only [serveSlotStop, slotArgs_slotByte, hiff.mpr hstop, if_true]
    have hstep : exec (.slotStop tag [slotByte k]) s = .next (postReply ⟨tag, 18, .done,
        slotReplyBytes k ((stopSlot k s).slot k)⟩ (stopSlot k s)) :=
      congrArg Host.Outcome.next (exec_done_of_free hfree hserve tag 18)
    rw [hstep, stopSlot_slot_same]
    rfl
  · refine withdraw_withdrawn (Beside.refl k s) rfl ((Beside.modSlot k _ _).trans (Beside.enterState k _ _)) rfl ?_ ?_
    · exact (withdraw_attempt k k s).trans (if_pos rfl)
    · exact (withdraw_download k k s).trans (if_pos rfl)
  · exact stopSlot_slot_same k
  · exact withdraw_presence s k
  · exact withdraw_cycle s k
  · have hcyc : (withdraw k s).cyc k = s.cyc k := by rw [State.cyc, withdraw_cycle]; rfl
    rw [stopSlot, enterState_eq (by decide) (by decide), State.modSlot_slot_same, withdraw_slot_same]
    simp only [State.modSlot_cyc, hcyc]
    exact mem_queueNotice_same ..
  · have hserve : serveSlotStop [slotByte k] s = refusal .wrongState s := by
      simp only [serveSlotStop, slotArgs_slotByte, if_neg (mt hiff.mp hstop)]
    exact congrArg Host.Outcome.next (refused_of_free hfree hserve tag 18)

/-- Settles O50: FAULTED to PRESENT and through the gate, QUARANTINED by card and debounce. -/
theorem slotClearLeavesFault : Obligations.SlotClearLeavesFault := by
  unfold Obligations.SlotClearLeavesFault
  intro tag k s hfree
  have hreply : ∀ t : State, (t.slot k).epoch = (s.slot k).epoch → serveSlotClear [slotByte k] s = slotDone k t →
      exec (.slotClear tag [slotByte k]) s = .next (postReply ⟨tag, 19, .done,
        [slotByte k, slotStateByte (t.slot k).state, modeByte (t.slot k).mode, (s.slot k).epoch]⟩ t) := by
    intro t he hserve
    rw [← he]
    exact congrArg Host.Outcome.next (exec_done_of_free hfree hserve tag 19)
  have hfaulted : (s.slot k).state = .faulted → serveSlotClear [slotByte k] s = slotDone k (clearFaulted k s) :=
    fun h => by simp only [serveSlotClear, slotArgs_slotByte, h, if_true]
  let cleared := s.modSlot k fun r => { r with faultReason := none, cardCode := none, profileIndex := none }
  have hcleared : cleared.slot k = { s.slot k with faultReason := none, cardCode := none, profileIndex := none } :=
    State.modSlot_slot_same ..
  have hpresent : (enterState k .present cleared).slot k =
      { s.slot k with faultReason := none, cardCode := none, profileIndex := none, state := .present } := by
    rw [enterState_slot_same, hcleared]
  have hepoch : ((clearFaulted k s).slot k).epoch = (s.slot k).epoch := by
    obtain ⟨x, -, hx⟩ := clearFaulted_slot_same (s := s) k
    rw [hx]
  refine ⟨fun hf hgate => ?_, fun hf hmode hopen => ?_, fun x hq hx => ?_, fun hf hq => ?_⟩
  · rw [hreply _ hepoch (hfaulted hf), clearFaulted, admissionGate, if_neg, enterState_eq (by decide) (by decide), hcleared]
    · simp only [State.modSlot, amend_amend]
      rfl
    · rw [hpresent]
      exact fun h => hgate h.2
  · rw [hreply _ hepoch (hfaulted hf), clearFaulted, admissionGate, if_pos, enterIdentifying_eq, hpresent,
      enterState_eq (by decide) (by decide), hcleared]
    · simp only [State.modSlot, amend_amend]
      rfl
    · rw [hpresent]
      exact ⟨rfl, hmode, hopen⟩
  · have hserve : serveSlotClear [slotByte k] s = slotDone k (clearQuarantined k s) := by
      simp only [serveSlotClear, slotArgs_slotByte, hq]
      rfl
    have hxf : x ≠ .faulted ∧ x ≠ .quarantined := by
      obtain ⟨-, rfl⟩ | ⟨-, -, rfl⟩ | ⟨-, -, rfl⟩ := hx <;> decide
    rw [hreply _ (by rw [clearQuarantined_slot, if_pos rfl]) hserve, clearQuarantined, clearedState_eq hx,
      enterState_eq hxf.1 hxf.2, State.modSlot_slot_same]
    simp only [State.modSlot, amend_amend]
    rfl
  · have hserve : serveSlotClear [slotByte k] s = refusal .wrongState s := by
      simp only [serveSlotClear, slotArgs_slotByte, hf, hq, if_false]
    exact congrArg Host.Outcome.next (refused_of_free hfree hserve tag 19)

end Sys2Proof.Machine
end

section
/-!
PROOF. Segments: what is sent, how an answer is classified, and how a transaction of a PARAM kind goes on.
-/
namespace Sys2Proof.Machine

/-! ## SEGMENT_START (O22) -/

theorem isLastSegment_iff (x : Transaction) : isLastSegment x = true ↔ x.totalLength ≤ x.position + 64 := by
  have hdata : Config.segmentData = 64 := rfl
  simp only [isLastSegment, segmentLength, hdata, decide_eq_true_eq]
  omega

theorem segmentLength_of_not_last {x : Transaction} (h : x.position + 64 < x.totalLength) : segmentLength x = 64 := by
  have hdata : Config.segmentData = 64 := rfl
  rw [segmentLength, hdata]
  omega

/-- The byte of a segment's kind, with the mark of the last segment (R91, R202). -/
theorem kindByte_eq (x : Transaction) : byteOf (serviceKindCode x.kind + 128 * (isLastSegment x).toNat)
    = byteOf (serviceKindCode x.kind + (if x.totalLength ≤ x.position + 64 then 128 else 0)) := by
  by_cases h : x.totalLength ≤ x.position + 64
  · rw [(isLastSegment_iff x).mpr h, if_pos h]
    rfl
  · rw [Bool.eq_false_iff.mpr (mt (isLastSegment_iff x).mp h), if_neg h]
    rfl

/-- The transaction that a free backplane sends next (R95). -/
theorem nextTransaction_eq_some {c : ServiceChannel} {x : Transaction} {q : List Transaction}
    (h : (c.inFlight = some x ∧ c.queue = q) ∨ (c.inFlight = none ∧ c.queue = x :: q)) :
    nextTransaction c = some (x, q) := by
  obtain ⟨hf, hq⟩ | ⟨hf, hq⟩ := h <;> simp only [nextTransaction, hf, hq]

theorem Memory.readRange_eq_map (m : Memory) (o n : Nat) :
    m.readRange o n = (List.range n).map fun i => m.read (o + i) := by
  induction n generalizing o with
  | zero => rfl
  | succ n ih =>
    rw [Memory.readRange, ih, List.range_succ_eq_map, List.map_cons, List.map_map]
    refine congrArg _ (List.map_congr_left fun i _ => ?_)
    rw [Function.comp_apply, Nat.succ_eq_add_one]
    exact congrArg m.read (by omega)

/-- The data bytes of a segment, byte for byte (R61, R88). -/
theorem segmentPayload_eq (m : Memory) (x : Transaction) : segmentPayload m x = match x.source with
    | some (.storeRange o _) => (List.range (segmentLength x)).map fun i => m.read (o + x.position + i)
    | some (.carried bytes) => (bytes.drop x.position).take (segmentLength x)
    | none => [] := by
  unfold segmentPayload
  cases x.source with
  | none => rfl
  | some source =>
    cases source with
    | storeRange o n => exact m.readRange_eq_map _ _
    | carried bytes => rfl

/-- Settles O22: the segment of the next transaction, and the timeout of a segment under way. -/
theorem segmentStartSendsNextSegment : Obligations.SegmentStartSendsNextSegment := by
  unfold Obligations.SegmentStartSendsNextSegment
  intro s
  refine ⟨fun x q hfree hnext => ?_, fun hno => ?_, fun g hg => ?_, fun hg => ?_⟩
  · simp only [exec, execSegmentStart, hfree, if_true, nextTransaction_eq_some hnext, segmentTelegram, serviceTelegram,
      withCrc16, kindByte_eq, segmentPayload_eq]
    rfl
  · obtain hbusy | ⟨hf, hq⟩ := hno
    · simp only [exec, execSegmentStart, hbusy]
      rfl
    · simp only [exec, execSegmentStart, nextTransaction, hf, hq, ite_self]
  · simp only [exec, execSegmentResponseTimeout, State.modService, hg]
    rfl
  · simp only [exec, execSegmentResponseTimeout, State.modService, hg, Option.map_none]
    rw [← hg]

/-! ## The answer (O23) -/

/-- An answer with the bytes that its header names (R92, R93). -/
theorem answerOutcome_of_whole (k : Slot) {slot result code p1 p0 r : Byte} {data crc : List Byte}
    (hr : data.length = r.toNat) (hcrc : crc.length = 2) (extra : List Byte) :
    answerOutcome k ([slot, result, code, p1, p0, r] ++ data ++ crc ++ extra) =
      if r.toNat ≤ 64 ∧ crc = half16 (crc16 ([slot, result, code, p1, p0, r] ++ data)) ∧ slot = slotByte k then
        (match result.toNat with
        | 1 => .answered (.accept data)
        | 2 => if code = 0 then .crcError else .answered (.refuse code)
        | 3 => .answered .busy
        | _ => .crcError)
      else .crcError := by
  have hdata : (data ++ (crc ++ extra)).take r.toNat = data := List.take_left' hr
  have hrest : ((data ++ (crc ++ extra)).drop r.toNat).take 2 = crc := by
    rw [List.drop_left' hr, List.take_left' hcrc]
  have hlong : r.toNat + 2 ≤ (data ++ (crc ++ extra)).length := by simp only [List.length_append]; omega
  simp only [List.cons_append, List.nil_append, List.append_assoc, answerOutcome, hdata, hrest, hlong,
    decide_true, Bool.and_true, Bool.and_eq_true, decide_eq_true_eq, and_assoc]
  exact if_congr Iff.rfl rfl rfl

/-- An answer cut short is CRC_ERROR (log 29). -/
theorem answerOutcome_of_short (k : Slot) {answer : List Byte}
    (h : answer.length < 6 ∨ ∀ r, answer[5]? = some r → answer.length < 8 + r.toNat) :
    answerOutcome k answer = .crcError := by
  unfold answerOutcome
  split
  · rename_i slot result code p1 p0 r rest
    have hshort : ¬ r.toNat + 2 ≤ rest.length := by
      obtain h | h := h
      · simp only [List.length_cons] at h
        omega
      · have := h r rfl
        simp only [List.length_cons] at this
        omega
    simp [hshort]
  · rfl

theorem segmentOutcome_of_heard {g : Segment} (h : g.timedOut = false) (x : Transaction) (answer : List Byte) :
    segmentOutcome g x answer = checkLength x (answerOutcome x.slot answer) := by
  rw [segmentOutcome, h]
  rfl

/-- The length check touches nothing but an ACCEPT (R93). -/
theorem checkLength_of_not_accept {o : SegmentOutcome} (h : ∀ data, o ≠ .answered (.accept data)) (x : Transaction) :
    checkLength x o = o := by
  unfold checkLength
  split
  · rfl
  · rename_i data _
    exact absurd rfl (h data)
  · rfl

theorem checkLength_accept (x : Transaction) (data : List Byte) : checkLength x (.answered (.accept data)) =
    if x.kind = .identRead ∨ data.length = expectedData x then .answered (.accept data) else .crcError := by
  unfold checkLength
  cases x.kind <;> simp

/-- Settles O23: the answer read, and its length checked. -/
theorem answerClassified : Obligations.AnswerClassified := by
  unfold Obligations.AnswerClassified
  intro g x
  refine ⟨fun ht answer => by rw [segmentOutcome, if_pos ht], fun ht slot result code p1 p0 r data crc extra hr hcrc => ?_,
    fun ht answer hshort => ?_⟩
  · have houtcome := segmentOutcome_of_heard ht x ([slot, result, code, p1, p0, r] ++ data ++ crc ++ extra)
    rw [answerOutcome_of_whole x.slot hr hcrc extra] at houtcome
    have hresult : ∀ n : Nat, n < 256 → (result = BitVec.ofNat 8 n ↔ result.toNat = n) := fun n hn => by
      rw [← BitVec.toNat_inj, BitVec.toNat_ofNat, Nat.mod_eq_of_lt hn]
    have h1 : result = 1 ↔ result.toNat = 1 := hresult 1 (by decide)
    have h2 : result = 2 ↔ result.toNat = 2 := hresult 2 (by decide)
    have h3 : result = 3 ↔ result.toNat = 3 := hresult 3 (by decide)
    dsimp only
    rw [houtcome, h1, h2, h3]
    refine ⟨fun hbad => ?_, fun ⟨hc, hs, _, hcode, hlen⟩ hthree => ?_, fun ⟨hc, hs, _, hcode, hlen⟩ htwo => ?_,
      fun ⟨hc, hs, _, hcode, hlen⟩ hone hwant => ?_, fun ⟨hc, hs, _, hcode, hlen⟩ hone hkind hwant => ?_⟩
    · refine (congrArg (checkLength x) ?_).trans (checkLength_of_not_accept (fun _ h => by cases h) x)
      split
      · rename_i hcond
        obtain ⟨hlen, hc, hs⟩ := hcond
        split
        · rename_i hone
          exact absurd ⟨hc, hs, .inl hone, fun htwo => absurd (hone.symm.trans htwo) (by decide), hlen⟩ hbad
        · rename_i htwo
          exact if_pos (by_contra fun hcode => hbad ⟨hc, hs, .inr (.inl htwo), fun _ => hcode, hlen⟩)
        · rename_i hthree
          exact absurd ⟨hc, hs, .inr (.inr hthree), fun htwo => absurd (hthree.symm.trans htwo) (by decide), hlen⟩ hbad
        · rfl
      · rfl
    · rw [if_pos ⟨hlen, hc, hs⟩, hthree]
      exact checkLength_of_not_accept (fun _ h => by cases h) x
    · rw [if_pos ⟨hlen, hc, hs⟩, htwo]
      simp only [hcode htwo, if_false]
      exact checkLength_of_not_accept (fun _ h => by cases h) x
    · rw [if_pos ⟨hlen, hc, hs⟩, hone]
      refine (checkLength_accept x data).trans (if_pos ?_)
      rw [hr]
      exact hwant
    · rw [if_pos ⟨hlen, hc, hs⟩, hone]
      refine (checkLength_accept x data).trans (if_neg ?_)
      rw [hr]
      exact not_or.mpr ⟨hkind, hwant⟩
  · rw [segmentOutcome_of_heard ht, answerOutcome_of_short x.slot hshort]
    exact checkLength_of_not_accept (fun _ h => by cases h) x

/-! ## SEGMENT_END of a PARAM kind (O29) -/

section
variable {s : State} {g : Segment} {x : Transaction}

theorem exec_segmentEnd_of_runs (h : segmentRuns s g x) (answer : List Byte) : exec (.segmentEnd answer) s
    = .next (actOnOutcome x (segmentOutcome g x answer) (s.modService fun c => { c with segment := none })) := by
  obtain ⟨hg, hl, hx⟩ := h
  simp only [exec, execSegmentEnd, hg, hl, hx]

/-- The outcome of a segment of a PARAM kind (R94). -/
theorem actOnOutcome_of_param (hk : x.kind ≠ .identRead) (o : SegmentOutcome) (t : State) :
    actOnOutcome x o t = (match o with
      | .answered (.accept data) => acceptSegment x data t
      | .answered (.refuse code) => completeTransaction x (.refused code) (setInFlight none t)
      | .answered .busy => queueTransaction { x with repeatUsed := false } (setInFlight none t)
      | .noAnswer => failSegment x t
      | .crcError => failSegment x t) := by
  unfold actOnOutcome
  split
  · rename_i h; exact absurd h hk
  all_goals rfl

theorem exec_segmentEnd_accept (h : segmentRuns s g x) (hk : x.kind ≠ .identRead) {answer data : List Byte}
    (ho : segmentOutcome g x answer = .answered (.accept data)) : exec (.segmentEnd answer) s
      = .next (acceptSegment x data (s.modService fun c => { c with segment := none })) := by
  rw [exec_segmentEnd_of_runs h, actOnOutcome_of_param hk, ho]

theorem exec_segmentEnd_last (h : segmentRuns s g x) (hk : x.kind ≠ .identRead) {answer data : List Byte}
    (ho : segmentOutcome g x answer = .answered (.accept data)) (hl : x.totalLength ≤ x.position + 64) :
    exec (.segmentEnd answer) s = .next (completeTransaction x (.accepted (x.gathered ++ data)) (segmentOver s)) := by
  rw [exec_segmentEnd_accept h hk ho, acceptSegment, if_pos ((isLastSegment_iff x).mpr hl)]
  rfl

theorem exec_segmentEnd_refused (h : segmentRuns s g x) (hk : x.kind ≠ .identRead) {answer : List Byte} {code : Byte}
    (ho : segmentOutcome g x answer = .answered (.refuse code)) : exec (.segmentEnd answer) s
      = .next (completeTransaction x (.refused code) (segmentOver s)) := by
  rw [exec_segmentEnd_of_runs h, actOnOutcome_of_param hk, ho]
  rfl

theorem exec_segmentEnd_failed (h : segmentRuns s g x) (hk : x.kind ≠ .identRead) {answer : List Byte}
    (ho : segmentOutcome g x answer = .noAnswer ∨ segmentOutcome g x answer = .crcError) : exec (.segmentEnd answer) s
      = .next (failSegment x (s.modService fun c => { c with segment := none })) := by
  rw [exec_segmentEnd_of_runs h, actOnOutcome_of_param hk]
  obtain ho | ho := ho <;> rw [ho]

theorem exec_segmentEnd_timedOut (h : segmentRuns s g x) (hk : x.kind ≠ .identRead) {answer : List Byte}
    (ho : segmentOutcome g x answer = .noAnswer ∨ segmentOutcome g x answer = .crcError) (hr : x.repeatUsed = true) :
    exec (.segmentEnd answer) s = .next (completeTransaction x .timeout (segmentOver s)) := by
  rw [exec_segmentEnd_failed h hk ho, failSegment, if_pos hr]
  rfl

end

/-- Settles O29: the transaction moves on, goes back to the tail or is repeated; an ended one frees the backplane. -/
theorem paramSegmentGoesOn : Obligations.ParamSegmentGoesOn := by
  unfold Obligations.ParamSegmentGoesOn
  intro s g answer
  refine ⟨fun x h hk => ⟨fun data ho hmore => ?_, fun ho => ?_, fun ho hr => ?_⟩, fun hg hl => ?_, fun hg => ?_⟩
  · rw [exec_segmentEnd_accept h hk ho, acceptSegment, if_neg (mt (isLastSegment_iff x).mp (by omega)),
      segmentLength_of_not_last hmore]
    rfl
  · rw [exec_segmentEnd_of_runs h, actOnOutcome_of_param hk, ho]
    rfl
  · rw [exec_segmentEnd_failed h hk ho, failSegment, hr]
    rfl
  · simp only [exec, execSegmentEnd, hg, hl]
    rfl
  · simp only [exec, execSegmentEnd, hg]

end Sys2Proof.Machine
end

section
/-!
PROOF. What the end of a transaction does: identity reads, downloads and pass-throughs (R42 to R45, R51, R75, R101 to
R103, R108).
-/
namespace Sys2Proof.Machine

/-! ## The twelve bytes of an identity record (R199) -/

theorem half16_append (hi lo : Byte) : half16 (hi ++ lo) = [hi, lo] := by
  have h1 : (hi ++ lo : Half).extractLsb' 8 8 = hi := by rw [BitVec.extractLsb'_append_eq_left]
  have h0 : (hi ++ lo : Half).extractLsb' 0 8 = lo := by rw [BitVec.extractLsb'_append_eq_right]
  rw [half16, h1, h0]

theorem append_half16 (w : Half) : (w.extractLsb' 8 8 ++ w.extractLsb' 0 8 : Half) = w := by
  rw [BitVec.extractLsb'_append_extractLsb'_eq_extractLsb' (by omega)]
  exact BitVec.extractLsb'_eq_self

theorem toNat_append_byte {n : Nat} (x : BitVec n) (y : Byte) : (x ++ y).toNat = x.toNat * 256 + y.toNat := by
  have hy : y.toNat < 2 ^ 8 := y.isLt
  rw [BitVec.toNat_append, ← Nat.shiftLeft_add_eq_or_of_lt hy, Nat.shiftLeft_eq]

theorem word32_append (b3 b2 b1 b0 : Byte) : word32 (b3 ++ b2 ++ b1 ++ b0) = [b3, b2, b1, b0] := by
  have h3 := b3.isLt
  have h2 := b2.isLt
  have h1 := b1.isLt
  have h0 := b0.isLt
  have hw : (b3 ++ b2 ++ b1 ++ b0 : BitVec 32).toNat = ((b3.toNat * 256 + b2.toNat) * 256 + b1.toNat) * 256 + b0.toNat := by
    simp only [toNat_append_byte]
  have hbyte : ∀ (i : Nat) (b : Byte), (b3 ++ b2 ++ b1 ++ b0 : BitVec 32).toNat / 2 ^ i % 2 ^ 8 = b.toNat →
      (b3 ++ b2 ++ b1 ++ b0 : BitVec 32).extractLsb' i 8 = b := fun i b h =>
    BitVec.eq_of_toNat_eq (by rw [BitVec.extractLsb'_toNat, Nat.shiftRight_eq_div_pow, h])
  rw [word32, hbyte 24 b3 (by rw [hw]; omega), hbyte 16 b2 (by rw [hw]; omega), hbyte 8 b1 (by rw [hw]; omega),
    hbyte 0 b0 (by rw [hw]; omega)]

theorem append_word32 (w : BitVec 32) :
    (w.extractLsb' 24 8 ++ w.extractLsb' 16 8 ++ w.extractLsb' 8 8 ++ w.extractLsb' 0 8 : BitVec 32) = w := by
  rw [BitVec.extractLsb'_append_extractLsb'_eq_extractLsb' (by omega),
    BitVec.extractLsb'_append_extractLsb'_eq_extractLsb' (by omega),
    BitVec.extractLsb'_append_extractLsb'_eq_extractLsb' (by omega)]
  exact BitVec.extractLsb'_eq_self

/-- A record's bytes are the only ones that hold it. -/
theorem identityOf_eq_some_iff (data : List Byte) (c : IdentityRecord) :
    identityOf data = some c ↔ data = identityBytes c := by
  constructor
  · intro h
    unfold identityOf at h
    split at h
    · rw [← Option.some.inj h, identityBytes, half16_append, half16_append, half16_append, word32_append]
      rfl
    · cases h
  · rintro rfl
    simp only [identityBytes, half16, word32, List.cons_append, List.nil_append, identityOf, append_half16, append_word32]

/-- A good read is an ACCEPT of a record's bytes with a vendor code in 1..65534 (R42). -/
theorem goodRead_eq_some_iff (o : SegmentOutcome) (c : IdentityRecord) : goodRead o = some c ↔
    o = .answered (.accept (identityBytes c)) ∧ 1 ≤ c.vendor.toNat ∧ c.vendor.toNat ≤ 65534 := by
  constructor
  · intro h
    refine ⟨?_, goodRead_vendor_range h⟩
    unfold goodRead at h
    split at h
    · obtain ⟨hid, -⟩ := Option.filter_eq_some_iff.mp h
      rw [(identityOf_eq_some_iff _ c).mp hid]
    · cases h
  · rintro ⟨rfl, hlow, hhigh⟩
    have hvendor : ¬ c.vendor = 0#16 ∧ ¬ c.vendor = 65535#16 := ⟨by bv_omega, by bv_omega⟩
    simpa [goodRead, (identityOf_eq_some_iff _ c).mpr rfl] using hvendor

/-! ## Identity reads (O24, O25) -/

section
variable {s : State} {g : Segment} {x : Transaction} {a : Attempt}

theorem exec_segmentEnd_ident (h : segmentRuns s g x) (hk : x.kind = .identRead) (answer : List Byte) :
    exec (.segmentEnd answer) s = .next (identCompletion x (segmentOutcome g x answer) (segmentOver s)) := by
  rw [exec_segmentEnd_of_runs h]
  simp only [actOnOutcome, hk]
  rfl

/-- A read of the current attempt that failed (R43). -/
theorem identCompletion_failed (ha : s.attempt x.slot = some a) (he : a.epoch = x.epoch) {o : SegmentOutcome}
    (ho : goodRead o = none) : identCompletion x o (segmentOver s) = failAttempt x.slot a (segmentOver s) := by
  have ha' : (segmentOver s).attempt x.slot = some a := ha
  simp only [identCompletion, ha', if_pos he, ho]

/-- A good read of the current attempt (R44). -/
theorem identCompletion_good (ha : s.attempt x.slot = some a) (he : a.epoch = x.epoch) {o : SegmentOutcome}
    {c : IdentityRecord} (ho : goodRead o = some c) :
    identCompletion x o (segmentOver s) = takeIdentity x.slot a.epoch c (segmentOver s) := by
  have ha' : (segmentOver s).attempt x.slot = some a := ha
  simp only [identCompletion, ha', ho, he, if_true]

end

/-- Settles O24: which reads are good, the next attempt, and the four faults. -/
theorem identAttemptEnds : Obligations.IdentAttemptEnds := by
  unfold Obligations.IdentAttemptEnds
  refine ⟨⟨goodRead_eq_some_iff, fun s g x a answer h hk ha he ho => ⟨fun hn => ?_, fun hn hx hc => ?_⟩⟩,
    fun s g x a answer c h hk ha he ho hx hc => ?_⟩
  · rw [exec_segmentEnd_ident h hk, identCompletion_failed ha he ho, failAttempt,
      if_pos (show a.number < Config.identAttempts from hn)]
    rfl
  · refine ⟨_, exec_segmentEnd_ident h hk answer, ?_⟩
    rw [identCompletion_failed ha he ho, failAttempt,
      if_neg (show ¬ a.number < Config.identAttempts from Nat.not_lt.mpr hn)]
    refine ((Awaiting.refl x.slot (segmentOver s)).setAttempt none).reported _ _ ?_ hc.symm
    exact (congrArg FaultReason.identTimeout.takenIn hx).trans rfl
  · let read := (segmentOver s).modSlot x.slot fun r => { r with identity := some c }
    have hread : (read.slot x.slot).state = .identifying ∧ a.epoch = (read.slot x.slot).epoch := by
      rw [State.modSlot_slot_same]
      exact ⟨hx, hc.symm⟩
    have hfault : ∀ reason : FaultReason, reason.takenIn .identifying = true → ∀ t,
        takeIdentity x.slot a.epoch c (segmentOver s) = reportFault x.slot a.epoch reason none (read.setAttempt x.slot none) →
        t = takeIdentity x.slot a.epoch c (segmentOver s) → FaultEntered x.slot reason none read t := by
      rintro reason hr t ht rfl
      rw [ht]
      exact ((Awaiting.refl x.slot read).setAttempt none).reported _ _ (by rw [hread.1]; exact hr) hread.2
    have hexec : exec (.segmentEnd answer) s = .next (takeIdentity x.slot a.epoch c (segmentOver s)) := by
      rw [exec_segmentEnd_ident h hk, identCompletion_good ha he ho]
    refine ⟨fun hf => ⟨_, hexec, ?_⟩, fun hf hd => ⟨_, hexec, ?_⟩, fun p hf hd hv => ⟨_, hexec, ?_⟩⟩
    · refine hfault .identFormat rfl _ ?_ rfl
      rw [takeIdentity, if_neg hf]
    · refine hfault .noMatch rfl _ ?_ rfl
      rw [takeIdentity, if_pos hf, show (segmentOver s).matcher = s.matcher from rfl, hd]
      rfl
    · refine hfault .profileAbsent rfl _ ?_ rfl
      rw [takeIdentity, if_pos hf, show (segmentOver s).matcher = s.matcher from rfl, hd]
      exact if_neg (by rw [show ((((segmentOver s).modSlot x.slot fun r => { r with identity := some c }).setAttempt
        x.slot none).profile p).valid = false from hv]; decide)

/-! ## A claim requested (O25) -/

/-- A grant, in full (R75, R77). -/
theorem grantClaim_eq (k : Slot) (s : State) : grantClaim k s = { s with
    slots := amend s.slots k fun r => { r with parkReason := none, state := .rampQueued }
    power := { s.power with
      slots := amend s.power.slots k fun r => { r with claim := some ⟨(s.profileOf k).powerDraw, (s.slot k).epoch⟩ }
      waitList := without k s.power.waitList, rampQueue := s.power.rampQueue ++ [k] }
    mgmt := { s.mgmt with
      notices := queueNotice (.slot k .rampQueued (s.slot k).epoch none (s.cyc k).cardDiag) s.mgmt.notices } } := by
  rw [grantClaim, enterState_eq (by decide) (by decide), State.modSlot_slot_same]
  simp only [State.modSlot, amend_amend]
  rfl

/-- A parked claim, in full (R75). -/
theorem parkClaim_eq (k : Slot) (s : State) : parkClaim k s = { s with
    slots := amend s.slots k fun r => { r with parkReason := some .power, state := .powerWait }
    power := { s.power with waitList := s.power.waitList ++ [k] }
    mgmt := { s.mgmt with
      notices := queueNotice (.slot k .powerWait (s.slot k).epoch none (s.cyc k).cardDiag) s.mgmt.notices } } := by
  rw [parkClaim, enterState_eq (by decide) (by decide), State.modSlot_slot_same]
  simp only [State.modSlot, amend_amend]
  rfl

/-- A ramp that a free arbiter starts, in full (R80). -/
theorem startRamp_of_cons {s : State} {k : Slot} {rest : List Slot} (ha : s.power.arbiter = none)
    (hq : s.power.rampQueue = k :: rest) : startRamp s = { s with
      slots := amend s.slots k fun r => { r with state := .ramping }
      power :=
        { slots := amend s.power.slots k fun r =>
            { r with mainSupply := true, rampTimer := some (s.profileOf k).rampTime }
          waitList := s.power.waitList, rampQueue := rest, arbiter := some k }
      mgmt := { s.mgmt with
        notices := queueNotice (.slot k .ramping (s.slot k).epoch none (s.cyc k).cardDiag) s.mgmt.notices } } := by
  simp only [startRamp, ha, hq]
  rw [enterState_eq (by decide) (by decide)]
  rfl

theorem startRamp_of_busy {s : State} (h : s.power.arbiter.isSome = true ∨ s.power.rampQueue = []) : startRamp s = s := by
  obtain ⟨k, rest, ha, hq, -⟩ | ⟨-, hs⟩ := startRamp_cases s
  · obtain h | h := h
    · rw [ha] at h; cases h
    · rw [hq] at h; cases h
  · exact hs

/-- The matched profile stored beside the record (R51), in full. -/
theorem profileMatched_eq (k : Slot) (c : IdentityRecord) (p : ProfileIndex) (s : State) :
    profileMatched k c p s = { s with
      slots := amend s.slots k fun r => { r with identity := some c, profileIndex := some p }
      matcher := { s.matcher with attempts := amend s.matcher.attempts k fun _ => none } } := by
  simp only [profileMatched, identityTaken, State.modSlot, State.setAttempt, amend_amend]

theorem profileMatched_profileOf (k : Slot) (c : IdentityRecord) (p : ProfileIndex) (s : State) :
    (profileMatched k c p s).profileOf k = s.profile p := by
  rw [State.profileOf, profileMatched_slot, if_pos rfl]
  rfl

/-- Settles O25: the decision on the claim, and the ramp that a free arbiter starts at once. -/
theorem identMatchAsksForClaim : Obligations.IdentMatchAsksForClaim := by
  unfold Obligations.IdentMatchAsksForClaim
  intro s g x a answer c p h hk ha he ho hf hd hv hx hc
  let u := profileMatched x.slot c p (segmentOver s)
  have hslot : u.slot x.slot = { s.slot x.slot with identity := some c, profileIndex := some p } := by
    rw [profileMatched_slot, if_pos rfl]
    rfl
  have hprofile : u.profileOf x.slot = s.profile p := profileMatched_profileOf x.slot c p (segmentOver s)
  have hexec : exec (.segmentEnd answer) s = .next (requestClaim x.slot u) := by
    have hmatch : actOnMatch x.slot a.epoch (.assign p) (identityTaken x.slot c (segmentOver s)) = requestClaim x.slot u := by
      have hidslot : (identityTaken x.slot c (segmentOver s)).slot x.slot = { s.slot x.slot with identity := some c } := by
        rw [identityTaken_slot, if_pos rfl]
        rfl
      rw [actOnMatch, if_pos (show ((identityTaken x.slot c (segmentOver s)).profile p).valid = true from hv), hidslot,
        current, hidslot, if_pos ⟨hx, beq_iff_eq.mpr hc⟩]
      rfl
    rw [exec_segmentEnd_ident h hk, identCompletion_good ha he ho, takeIdentity, if_pos hf,
      show (segmentOver s).matcher = s.matcher from rfl, hd]
    exact congrArg Host.Outcome.next hmatch
  have hfits : claimFits u x.slot = decide (sumOfClaims s + (s.profile p).powerDraw ≤ s.settings.budget) := by
    rw [claimFits, hprofile]
    rfl
  have hgrant : sumOfClaims s + (s.profile p).powerDraw ≤ s.settings.budget →
      requestClaim x.slot u = startRamp (grantClaim x.slot u) := fun hroom => by
    rw [requestClaim, hfits, if_pos (by simpa using hroom)]
  refine ⟨fun hfull => ?_, fun hroom hbusy => ?_, fun hroom hidle hempty => ?_⟩
  · rw [hexec, requestClaim, hfits, if_neg (by simpa using hfull), parkClaim_eq, hslot]
    simp only [u, profileMatched_eq, amend_amend]
    rfl
  · rw [hexec, hgrant hroom, startRamp_of_busy (s := grantClaim x.slot u) (.inl hbusy), grantClaim_eq, hslot, hprofile]
    simp only [u, profileMatched_eq, amend_amend]
    rfl
  · have hqueue : (grantClaim x.slot u).power.rampQueue = [x.slot] :=
      (congrArg (· ++ [x.slot]) hempty : s.power.rampQueue ++ [x.slot] = _)
    have hdraw : (grantClaim x.slot u).profileOf x.slot = s.profile p := by
      rw [State.profileOf, grantClaim_slot, if_pos rfl, hslot]
      rfl
    have hepoch : ((grantClaim x.slot u).slot x.slot).epoch = (s.slot x.slot).epoch := by
      rw [grantClaim_slot, if_pos rfl, hslot]
    rw [hexec, hgrant hroom, startRamp_of_cons (s := grantClaim x.slot u) hidle hqueue, hdraw, hepoch, grantClaim_eq, hslot, hprofile]
    simp only [u, profileMatched_eq, amend_amend]
    rfl

/-! ## Downloads (O30) -/

theorem downloadNext_of_some {k : Slot} {e : Epoch} {p : Profile} {n : Nat} {r : ParameterRecord}
    (h : p.records[n]? = some r) : downloadNext k e p (n + 1) = (.record (n + 1), downloadWrite k e (n + 1) r) := by
  simp only [downloadNext, Nat.add_sub_cancel, h]

theorem downloadNext_of_none {k : Slot} {e : Epoch} {p : Profile} {n : Nat} (h : p.records[n]? = none) :
    downloadNext k e p (n + 1) = (.commit, paramCommit k e) := by
  simp only [downloadNext, Nat.add_sub_cancel, h]

theorem awaits_of_record {d : Download} {x : Transaction} {n : Nat} (he : d.epoch = x.epoch) (hs : d.step = .record n)
    (hk : x.kind = .paramWrite) (hn : x.recordNumber = some n) : d.awaits x = true := by
  simp [Download.awaits, he, hs, hk, hn]

theorem awaits_of_commit {d : Download} {x : Transaction} (he : d.epoch = x.epoch) (hs : d.step = .commit)
    (hk : x.kind = .paramCommit) : d.awaits x = true := by
  simp [Download.awaits, he, hs, hk]

/-- The completion of the record that a download waits for (R101). -/
theorem downloadCompletion_record {s : State} {x : Transaction} {d : Download} {n : Nat} (hd : s.download x.slot = some d)
    (hw : d.awaits x = true) (hs : d.step = .record n) (data : List Byte) :
    downloadCompletion x (.accepted data) s =
      queueTransaction (downloadNext x.slot d.epoch (s.profile d.profile) (n + 1)).2
        (s.setDownload x.slot (some { d with step := (downloadNext x.slot d.epoch (s.profile d.profile) (n + 1)).1 })) := by
  simp only [downloadCompletion, hd, hw, if_true, hs]

theorem downloadCompletion_commit {s : State} {x : Transaction} {d : Download} (hd : s.download x.slot = some d)
    (hw : d.awaits x = true) (hs : d.step = .commit) (data : List Byte) :
    downloadCompletion x (.accepted data) s = downloadComplete x.slot d.epoch (s.setDownload x.slot none) := by
  simp only [downloadCompletion, hd, hw, if_true, hs]

theorem downloadCompletion_refused {s : State} {x : Transaction} {d : Download} (hd : s.download x.slot = some d)
    (hw : d.awaits x = true) (code : Byte) : downloadCompletion x (.refused code) s
      = reportFault x.slot d.epoch .cardRefused (some code) (s.setDownload x.slot none) := by
  simp only [downloadCompletion, hd, hw, if_true]

theorem downloadCompletion_timeout {s : State} {x : Transaction} {d : Download} (hd : s.download x.slot = some d)
    (hw : d.awaits x = true) : downloadCompletion x .timeout s
      = reportFault x.slot d.epoch .cardTimeout none (s.setDownload x.slot none) := by
  simp only [downloadCompletion, hd, hw, if_true]

/-- Settles O30: the next record, the commit, MAP_WAIT, and the two faults. -/
theorem downloadMovesOn : Obligations.DownloadMovesOn := by
  unfold Obligations.DownloadMovesOn
  refine ⟨fun s g x d data answer h hor hd he ho hl => ?_, fun s g x d answer h hor hk hd hw hx hc => ?_⟩
  · have hd' : (segmentOver s).download x.slot = some d := hd
    have hexec : x.kind ≠ .identRead → exec (.segmentEnd answer) s
        = .next (downloadCompletion x (.accepted (x.gathered ++ data)) (segmentOver s)) := fun hk => by
      rw [exec_segmentEnd_last h hk ho hl, completeTransaction_of_sequencer _ _ hor]
    refine ⟨fun n r hs hk hn hr => ?_, fun n hs hk hn hr => ?_, fun hs hk hx hc => ?_⟩
    · have hr' : ((segmentOver s).profile d.profile).records[n]? = some r := hr
      rw [hexec (by rw [hk]; decide), downloadCompletion_record hd' (awaits_of_record he hs hk hn) hs,
        downloadNext_of_some hr']
      rfl
    · have hr' : ((segmentOver s).profile d.profile).records[n]? = none := hr
      rw [hexec (by rw [hk]; decide), downloadCompletion_record hd' (awaits_of_record he hs hk hn) hs,
        downloadNext_of_none hr']
      rfl
    · have hready : (((segmentOver s).setDownload x.slot none).slot x.slot).state = .configuring
          ∧ current ((segmentOver s).setDownload x.slot none) x.slot d.epoch = true := ⟨hx, beq_iff_eq.mpr hc⟩
      rw [hexec (by rw [hk]; decide), downloadCompletion_commit hd' (awaits_of_commit he hs hk) hs, downloadComplete,
        if_pos hready, enterState_eq (by decide) (by decide), ← hc]
      rfl
  · have hd' : (segmentOver s).download x.slot = some d := hd
    have hawait : Awaiting x.slot (segmentOver s) ((segmentOver s).setDownload x.slot none) :=
      (Awaiting.refl x.slot _).setDownload none
    have hstate : ((segmentOver s).slot x.slot).state = .configuring := hx
    refine ⟨fun code ho => ⟨_, exec_segmentEnd_refused h hk ho, ?_⟩,
      fun ho hr => ⟨_, exec_segmentEnd_timedOut h hk ho hr, ?_⟩⟩
    · rw [completeTransaction_of_sequencer _ _ hor, downloadCompletion_refused hd' hw]
      exact hawait.reported _ _ (by rw [hstate]; rfl) hc.symm
    · rw [completeTransaction_of_sequencer _ _ hor, downloadCompletion_timeout hd' hw]
      exact hawait.reported _ _ (by rw [hstate]; rfl) hc.symm

/-! ## Pass-throughs (O31) -/

/-- Settles O31: the reply takes the place of the outstanding access. -/
theorem passThroughReplies : Obligations.PassThroughReplies := by
  unfold Obligations.PassThroughReplies
  intro s g x tag q answer h hor htag hq hk p hp
  have hkind : x.kind ≠ .identRead := by obtain hk | hk := hk <;> rw [hk] <;> decide
  have hof : passThroughOf x = p := by rw [passThroughOf, htag]; rfl
  have hcode : p.code = if x.kind = .paramWrite then 113 else 112 := by
    obtain hk | hk := hk <;> simp [p, PassThrough.code, hk]
  have hsettled : ∀ c, completeTransaction x c (segmentOver s) = postReply
      ⟨tag, if x.kind = .paramWrite then 113 else 112, (passThroughAnswer x c).result, (passThroughAnswer x c).contents⟩
      { s with
        service := { s.service with segment := none, inFlight := none }
        mgmt := { s.mgmt with outstanding := s.mgmt.outstanding.erase p } } := fun c => by
    rw [completeTransaction_of_passThrough _ _ hor, passThroughCompletion, hof, if_pos (show p ∈ (segmentOver s).mgmt.outstanding from hp), settlePassThrough, hcode]
    rfl
  refine ⟨fun data ho hl => ?_, fun card ho => ?_, fun ho hr => ?_⟩
  · rw [exec_segmentEnd_last h hkind ho hl, hsettled]
    simp only [passThroughAnswer, hq]
    rfl
  · rw [exec_segmentEnd_refused h hkind ho, hsettled]
    rfl
  · rw [exec_segmentEnd_timedOut h hkind ho hr, hsettled]
    rfl

end Sys2Proof.Machine
end

section
/-!
PROOF. The end of a ramp (R81) and a re-evaluation of the Power Wait List (R77), in full.
-/
namespace Sys2Proof.Machine

/-! ## A re-evaluation is a run of grants (O21) -/

section
variable {s : State}

theorem sum_map_of_one_raised {l : List Slot} (hl : l.Nodup) {k : Slot} (hk : k ∈ l) {f g : Slot → Nat} (hf : f k = 0)
    (hg : ∀ j, j ≠ k → g j = f j) : (l.map g).sum = (l.map f).sum + g k := by
  induction l with
  | nil => cases hk
  | cons j l ih =>
    obtain ⟨hj, hl⟩ := List.nodup_cons.mp hl
    rw [List.map_cons, List.map_cons, List.sum_cons, List.sum_cons]
    by_cases hjk : j = k
    · subst hjk
      have hsame : l.map g = l.map f := List.map_congr_left fun i hi => hg i fun h => hj (h ▸ hi)
      rw [hsame, hf]
      omega
    · rw [ih hl ((List.mem_cons.mp hk).resolve_left (Ne.symm hjk)), hg j hjk]
      omega

/-- A grant raises the sum of claims by the draw granted. -/
theorem sumOfClaims_grantClaim {k : Slot} (h : (s.pow k).claim = none) :
    sumOfClaims (grantClaim k s) = sumOfClaims s + (s.profileOf k).powerDraw := by
  have hk : ((grantClaim k s).powerClaim k).getD 0 = (s.profileOf k).powerDraw := by
    rw [State.powerClaim, grantClaim_pow, if_pos rfl]
    rfl
  rw [← hk]
  refine sum_map_of_one_raised allSlots_nodup (mem_allSlots k) ?_ fun j hj => ?_
  · rw [State.powerClaim, h]
    rfl
  · rw [State.powerClaim, State.powerClaim, grantClaim_pow, if_neg hj]

theorem grantClaim_profileOf (j k : Slot) (s : State) : (grantClaim k s).profileOf j = s.profileOf j := by
  have hindex : ((grantClaim k s).slot j).profileIndex = (s.slot j).profileIndex := by
    rw [grantClaim_slot]
    by_cases hj : j = k
    · rw [if_pos hj, hj]
    · rw [if_neg hj]
  rw [State.profileOf, State.profileOf, hindex]
  rfl

/-- Going through the Power Wait List grants the slots of `grantOrder`, in their order. -/
theorem retryClaims_eq_grants (ks : List Slot) (hks : ks.Nodup) (s : State) (hc : ∀ k ∈ ks, (s.pow k).claim = none) :
    eachSlot ks retryClaim s
      = eachSlot (grantOrder (fun k => (s.profileOf k).powerDraw) s.settings.budget (sumOfClaims s) ks) grantClaim s := by
  induction ks generalizing s with
  | nil => rfl
  | cons k ks ih =>
    obtain ⟨hk, hks⟩ := List.nodup_cons.mp hks
    have hfits : claimFits s k = true ↔ sumOfClaims s + (s.profileOf k).powerDraw ≤ s.settings.budget := by
      rw [claimFits, decide_eq_true_eq]
    have hcons : eachSlot (k :: ks) retryClaim s = eachSlot ks retryClaim (retryClaim k s) := rfl
    rw [hcons, grantOrder, retryClaim]
    by_cases hroom : sumOfClaims s + (s.profileOf k).powerDraw ≤ s.settings.budget
    · rw [if_pos (hfits.mpr hroom), if_pos hroom, ih hks (grantClaim k s) fun j hj => ?_]
      · simp only [grantClaim_profileOf, sumOfClaims_grantClaim (hc k List.mem_cons_self)]
        rfl
      · have hjk : j ≠ k := fun h => hk (h ▸ hj)
        rw [grantClaim_pow, if_neg hjk]
        exact hc j (List.mem_cons_of_mem _ hj)
    · rw [if_neg (mt hfits.mp hroom), if_neg hroom]
      exact ih hks s fun j hj => hc j (List.mem_cons_of_mem _ hj)

theorem grantOrder_sublist (draw : Slot → Nat) (budget sum : Nat) (ks : List Slot) :
    (grantOrder draw budget sum ks).Sublist ks := by
  induction ks generalizing sum with
  | nil => exact List.Sublist.refl _
  | cons k ks ih =>
    rw [grantOrder]
    split
    · exact (ih _).cons_cons k
    · exact (ih _).cons k

/-- The notices of a run of grants. -/
def grantNotices (s : State) (gs : List Slot) (queued : List Notice) : List Notice :=
  gs.foldl (fun queued k => queueNotice (.slot k .rampQueued (s.slot k).epoch none (s.cyc k).cardDiag) queued) queued

/-- What a run of grants leaves, block by block (R77). -/
structure Granted (gs : List Slot) (s t : State) : Prop where
  waitList : t.power.waitList = s.power.waitList.filter fun k => !gs.contains k
  rampQueue : t.power.rampQueue = s.power.rampQueue ++ gs
  arbiter : t.power.arbiter = s.power.arbiter
  pow : ∀ k, t.pow k = { s.pow k with
    claim := if k ∈ gs then some ⟨(s.profileOf k).powerDraw, (s.slot k).epoch⟩ else (s.pow k).claim }
  slot : ∀ k, t.slot k = { s.slot k with
    state := if k ∈ gs then .rampQueued else (s.slot k).state
    parkReason := if k ∈ gs then none else (s.slot k).parkReason }
  mgmt : t.mgmt = { s.mgmt with notices := grantNotices s gs s.mgmt.notices }
  rest : t.presence = s.presence ∧ t.matcher = s.matcher ∧ t.library = s.library ∧ t.service = s.service
    ∧ t.maps = s.maps ∧ t.cycle = s.cycle ∧ t.pending = s.pending

theorem grants_granted (gs : List Slot) (hgs : gs.Nodup) (s : State) : Granted gs s (eachSlot gs grantClaim s) := by
  induction gs generalizing s with
  | nil => exact ⟨by simp [eachSlot], by simp [eachSlot], rfl, fun k => rfl, fun k => rfl, rfl, rfl, rfl, rfl, rfl, rfl, rfl, rfl⟩
  | cons k gs ih =>
    obtain ⟨hk, hgs⟩ := List.nodup_cons.mp hgs
    obtain ⟨hwait, hqueue, harb, hpow, hslot, hmgmt, hrest⟩ := ih hgs (grantClaim k s)
    have hcons : eachSlot (k :: gs) grantClaim s = eachSlot gs grantClaim (grantClaim k s) := rfl
    rw [hcons]
    have hepoch : ∀ j, ((grantClaim k s).slot j).epoch = (s.slot j).epoch := fun j => by
      rw [grantClaim_slot]
      by_cases hj : j = k
      · rw [if_pos hj, hj]
      · rw [if_neg hj]
    refine ⟨?_, ?_, harb, fun j => ?_, fun j => ?_, ?_, hrest⟩
    · rw [hwait]
      show (s.power.waitList.filter (· != k)).filter _ = _
      rw [List.filter_filter]
      refine List.filter_congr fun j _ => ?_
      by_cases hj : j = k <;> simp [hj, hk]
    · rw [hqueue]
      exact List.append_assoc ..
    · rw [hpow, grantClaim_profileOf, hepoch, grantClaim_pow]
      by_cases hj : j = k
      · subst hj
        simp [hk]
      · simp [hj]
    · rw [hslot, grantClaim_slot]
      by_cases hj : j = k
      · subst hj
        simp [hk]
      · simp [hj]
    · have hnotices : ∀ q, grantNotices (grantClaim k s) gs q = grantNotices s gs q := fun q => by
        simp only [grantNotices, hepoch]
        rfl
      rw [hmgmt, hnotices, show (grantClaim k s).mgmt = _ from congrArg State.mgmt (grantClaim_eq k s)]
      rfl

/-- Settles O21: a run of grants, and the ramp that a free arbiter then starts. -/
theorem reevaluationGrantsOldestFirst : Obligations.ReevaluationGrantsOldestFirst := by
  unfold Obligations.ReevaluationGrantsOldestFirst
  intro s hnodup hclaims granted t starts noticed
  have hgnodup : granted.Nodup := hnodup.sublist (grantOrder_sublist ..)
  have hg : Granted granted s (eachSlot granted grantClaim s) := grants_granted granted hgnodup s
  have ht : t = startRamp (eachSlot granted grantClaim s) := by
    rw [← retryClaims_eq_grants s.power.waitList hnodup s hclaims]
    rfl
  obtain ⟨hwait, hqueue, harb, hpow, hslot, hmgmt, hpres, hmatch, hlib, hserv, hmaps, hcyc, hpend⟩ := hg
  generalize hu : eachSlot granted grantClaim s = u at ht hwait hqueue harb hpow hslot hmgmt hpres hmatch hlib hserv hmaps hcyc hpend
  have hprofile : ∀ j, u.profileOf j = s.profileOf j := fun j => by
    rw [State.profileOf, hslot, State.profile, hlib]
    rfl
  have hepoch : ∀ j, (u.slot j).epoch = (s.slot j).epoch := fun j => by rw [hslot]
  have hcard : ∀ j, (u.cyc j).cardDiag = (s.cyc j).cardDiag := fun j => by rw [State.cyc, hcyc]; rfl
  by_cases hfree : s.power.arbiter = none ∧ s.power.rampQueue ++ granted ≠ []
  · obtain ⟨hnone, hne⟩ := hfree
    obtain ⟨j, rest, hj⟩ := List.exists_cons_of_ne_nil hne
    have hstarts : ∀ k, starts k ↔ k = j := fun k => by
      show (s.power.arbiter = none ∧ (s.power.rampQueue ++ granted).head? = some k) ↔ _
      rw [hj]
      simp [hnone, eq_comm]
    rw [startRamp_of_cons (harb.trans hnone) (hqueue.trans hj)] at ht
    rw [ht]
    refine ⟨hwait, fun k => ?_, fun k => ?_, fun hb => ?_, fun _ hnil => ?_, fun i tail _ hi => ?_, fun hb => ?_,
      fun i tail _ hi => ?_, hpres, hmatch, hlib, hserv, hmaps, hcyc, hpend⟩
    · rw [State.pow, look_amend]
      simp only [hstarts]
      by_cases hk : k = j
      · subst hk
        rw [if_pos rfl, ← State.pow, hpow, hprofile]
        simp
      · rw [if_neg hk, ← State.pow, hpow]
        simp [hk]
    · rw [State.slot, look_amend]
      simp only [hstarts]
      by_cases hk : k = j
      · subst hk
        rw [if_pos rfl, ← State.slot, hslot]
        simp
      · rw [if_neg hk, ← State.slot, hslot]
        simp [hk]
    · rw [hnone] at hb; cases hb
    · exact absurd hnil hne
    · obtain ⟨rfl, rfl⟩ := List.cons.inj (hj.symm.trans hi)
      exact ⟨rfl, rfl⟩
    · obtain hb | hb := hb
      · rw [hnone] at hb; cases hb
      · exact absurd hb hne
    · obtain ⟨rfl, rfl⟩ := List.cons.inj (hj.symm.trans hi)
      rw [hmgmt, hepoch, hcard]
      rfl
  · have hstarts : ∀ k, ¬ starts k := fun k hk => hfree ⟨hk.1, fun hnil => by
      have := hk.2
      rw [hnil] at this
      cases this⟩
    have hbusy : s.power.arbiter.isSome = true ∨ s.power.rampQueue ++ granted = [] := by
      cases ha : s.power.arbiter with
      | some => exact .inl rfl
      | none => exact .inr (by_contra fun h => hfree ⟨ha, h⟩)
    rw [startRamp_of_busy (by rwa [harb, hqueue])] at ht
    rw [ht]
    refine ⟨hwait, fun k => ?_, fun k => ?_, fun _ => ⟨harb, hqueue⟩, fun hnone hnil => ⟨harb.trans hnone, hqueue.trans hnil⟩,
      fun i tail hnone hi => ?_, fun _ => hmgmt, fun i tail hnone hi => ?_, hpres, hmatch, hlib, hserv, hmaps, hcyc, hpend⟩
    · rw [hpow]
      simp [hstarts k]
    · rw [hslot]
      simp [hstarts k]
    · exact absurd ⟨hnone, by rw [hi]; exact List.cons_ne_nil _ _⟩ hfree
    · exact absurd ⟨hnone, by rw [hi]; exact List.cons_ne_nil _ _⟩ hfree

end

/-! ## The end of a ramp (O19) -/

/-- The download that a slot entering CONFIGURING is given, and its first transaction (R100). -/
def firstDownload (k : Slot) (p : ProfileIndex) (s : State) : Download × Transaction :=
  let next := downloadNext k (s.slot k).epoch (s.profile p) 1
  (⟨(s.slot k).epoch, p, next.1, (s.profile p).configTimeout⟩, next.2)

/-- A good ramp's end before the next ramp, in full (R81, R83, R100). -/
theorem rampEnded_eq {k : Slot} {p : ProfileIndex} {s : State} (hp : (s.slot k).profileIndex = some p) :
    rampEnded k s = { s with
      slots := amend s.slots k fun r => { r with state := .configuring }
      power := { s.power with
        slots := amend s.power.slots k fun r => { r with rampTimer := none, monitoring := true, filter := false }
        arbiter := none }
      service := { s.service with
        queue := s.service.queue ++ [(firstDownload k p s).2]
        downloads := amend s.service.downloads k fun _ => some (firstDownload k p s).1 }
      mgmt := { s.mgmt with
        notices := queueNotice (.slot k .configuring (s.slot k).epoch none (s.cyc k).cardDiag) s.mgmt.notices } } := by
  have hslot : ((enterState k .configuring (s.modPow k fun r =>
      { r with rampTimer := none, monitoring := true, filter := false })).slot k)
        = { s.slot k with state := .configuring } := enterState_slot_same ..
  rw [rampEnded, createDownload, hslot]
  dsimp only
  rw [hp, enterState_eq (by decide) (by decide)]
  rfl

/-- The first transaction of a download: its first record's, or the commit (R88, R100). -/
theorem firstDownload_cases (k : Slot) (p : ProfileIndex) (s : State) :
    let d := (firstDownload k p s).1
    let x := (firstDownload k p s).2
    x.slot = k ∧ x.epoch = (s.slot k).epoch ∧ x.origin = .sequencer ∧ x.position = 0 ∧ x.repeatUsed = false
      ∧ ((s.profile p).records = [] → d.step = .commit ∧ x.kind = .paramCommit ∧ x.totalLength = 0)
      ∧ ∀ r rest, (s.profile p).records = r :: rest →
          d.step = .record 1 ∧ x.kind = .paramWrite ∧ x.parameter = some r.parameter ∧ x.totalLength = r.length
            ∧ x.source = some (.storeRange r.offset r.length) := by
  cases h : (s.profile p).records with
  | nil =>
    have hnext : downloadNext k (s.slot k).epoch (s.profile p) 1 = (.commit, paramCommit k (s.slot k).epoch) :=
      downloadNext_of_none (n := 0) (by rw [h]; rfl)
    dsimp only [firstDownload]
    rw [hnext]
    refine ⟨rfl, rfl, rfl, rfl, rfl, fun _ => ⟨rfl, rfl, rfl⟩, fun r rest hr => by cases hr⟩
  | cons r rest =>
    have hnext : downloadNext k (s.slot k).epoch (s.profile p) 1
        = (.record 1, downloadWrite k (s.slot k).epoch 1 r) := downloadNext_of_some (n := 0) (by rw [h]; rfl)
    dsimp only [firstDownload]
    rw [hnext]
    refine ⟨rfl, rfl, rfl, rfl, rfl, fun hr => (by cases hr), fun r' rest' hr => ?_⟩
    obtain ⟨rfl, rfl⟩ := List.cons.inj hr
    exact ⟨rfl, rfl, rfl, rfl, rfl⟩

/-- Settles O19: the slot's own move, then the next ramp; a discarded report ends the ramp alone. -/
theorem goodRampStartsDownload : Obligations.GoodRampStartsDownload := by
  unfold Obligations.GoodRampStartsDownload
  refine ⟨fun k s p c htimer hgood hp hstate hclaim hepoch hk => ?_, fun k s htimer hno => ?_⟩
  · have htaken : rampEndTaken k s = true := (rampEndTaken_iff s k).mpr ⟨hstate, c, hclaim, hepoch⟩
    have hexec : exec (.rampEnd k) s = .next (startRamp (rampEnded k s)) := by
      simp only [exec, execRampEnd, htimer, htaken, hgood, if_true]
      rfl
    obtain ⟨hxs, hxe, hxo, hxp, hxr, hnil, hcons⟩ := firstDownload_cases k p s
    have hu := rampEnded_eq hp
    have hslot : ∀ j, (rampEnded k s).slot j = _ := fun j => rampEnded_slot k j s
    have hpow : ∀ j, (rampEnded k s).pow j = _ := fun j => rampEnded_pow k j s
    have hdown : (rampEnded k s).download k = some (firstDownload k p s).1 := by
      rw [hu]
      exact look_amend_same ..
    have hdowns : ∀ j, j ≠ k → (rampEnded k s).download j = s.download j := fun j hj => by
      rw [hu]
      exact look_amend_of_ne _ hj _
    have hwork : (rampEnded k s).service.queue = s.service.queue ++ [(firstDownload k p s).2] := by rw [hu]
    have hmgmt := congrArg State.mgmt hu
    cases hq : s.power.rampQueue with
    | nil =>
      rw [hexec, startRamp_of_busy (s := rampEnded k s) (.inr hq)]
      refine ⟨_, (firstDownload k p s).1, (firstDownload k p s).2, rfl, by rw [hslot, if_pos rfl], by rw [hpow, if_pos rfl],
        hdown, rfl, rfl, rfl, hwork, hxs, hxe, hxo, hxp, hxr, hnil, hcons, fun _ => ⟨rfl, hq, fun j hj => ?_⟩,
        fun j rest h => (by cases h), rfl, rfl, rfl, hdowns, rfl, rfl, rfl, rfl, rfl, fun _ => hmgmt,
        fun j rest h => (by cases h), rfl⟩
      exact ⟨by rw [hslot, if_neg hj], by rw [hpow, if_neg hj]⟩
    | cons j rest =>
      have hjk : j ≠ k := fun h => hk (by rw [hq, h]; exact List.mem_cons_self)
      have hprofile : (rampEnded k s).profileOf j = s.profileOf j := by
        rw [State.profileOf, hslot, if_neg hjk]
        rfl
      have hjslot : (rampEnded k s).slot j = s.slot j := by rw [hslot, if_neg hjk]
      rw [hexec, startRamp_of_cons (s := rampEnded k s) rfl hq, hprofile, hjslot]
      refine ⟨_, (firstDownload k p s).1, (firstDownload k p s).2, rfl, ?_, ?_,
        hdown, rfl, rfl, rfl, hwork, hxs, hxe, hxo, hxp, hxr, hnil, hcons, fun h => (by cases h), fun i tail h => ?_,
        rfl, rfl, rfl, hdowns, rfl, rfl, rfl, rfl, rfl, fun h => (by cases h), fun i tail h => ?_, rfl⟩
      · exact (look_amend_of_ne _ (Ne.symm hjk) _).trans ((hslot k).trans (if_pos rfl))
      · exact (look_amend_of_ne _ (Ne.symm hjk) _).trans ((hpow k).trans (if_pos rfl))
      · obtain ⟨rfl, rfl⟩ := List.cons.inj h
        refine ⟨rfl, rfl, ?_, ?_, fun i hik hij => ⟨?_, ?_⟩⟩
        · rw [← hjslot]
          exact look_amend_same ..
        · rw [show s.pow j = (rampEnded k s).pow j by rw [hpow, if_neg hjk]]
          exact look_amend_same ..
        · exact (look_amend_of_ne _ hij _).trans ((hslot i).trans (if_neg hik))
        · exact (look_amend_of_ne _ hij _).trans ((hpow i).trans (if_neg hik))
      · obtain ⟨rfl, rfl⟩ := List.cons.inj h
        rw [hmgmt]
        rfl
  · have htaken : rampEndTaken k s = false := by
      refine Bool.eq_false_iff.mpr fun h => ?_
      obtain ⟨hstate, c, hclaim, hepoch⟩ := (rampEndTaken_iff s k).mp h
      obtain hno | hno := hno
      · exact hno hstate
      · exact hno c hclaim hepoch
    let ended := (s.modPow k fun r => { r with rampTimer := none }).modPower fun p =>
      { p with arbiter := if p.arbiter = some k then none else p.arbiter }
    have hexec : exec (.rampEnd k) s = .next (startRamp ended) := by
      simp only [exec, execRampEnd, htimer, htaken, if_true]
      rfl
    refine ⟨fun hbusy => ?_, fun j rest hq hidle => ?_⟩
    · rw [hexec, startRamp_of_busy]
      · rfl
      · exact hbusy.symm.imp Option.isSome_iff_ne_none.mpr id
    · rw [hexec, startRamp_of_cons (s := ended) hidle hq]
      rfl

end Sys2Proof.Machine
end

section
/-!
PROOF. The Cycle Frame received, the window closed, one slot accounted for, and the order of what goes upstream (R148 to
R150, R154 to R157, R171, R172).
-/
namespace Sys2Proof.Machine

variable {s : State}

/-! ## The upstream order (O44) -/

theorem startUpstream_of_return {m : Management} {f : ReturnFrame} {rest : List ReturnFrame} (h : m.returnLine = f :: rest) :
    startUpstream m = { m with transmitter := .sendingReturn f.wire, returnLine := rest } := by
  simp only [startUpstream, h]

theorem startUpstream_of_reply {m : Management} {r : ReplyFrame} {rest : List ReplyFrame} (h : m.returnLine = [])
    (hr : m.replyQueue = r :: rest) :
    startUpstream m = { m with transmitter := .sendingReply r.wire, replyQueue := rest } := by
  simp only [startUpstream, h, hr]

theorem startUpstream_of_nothing {m : Management} (h : m.returnLine = []) (hr : m.replyQueue = []) :
    startUpstream m = { m with transmitter := .idle } := by
  simp only [startUpstream, h, hr]

theorem postReply_of_sending (h : s.mgmt.transmitter ≠ .idle) (r : ReplyFrame) :
    postReply r s = s.modMgmt fun m => { m with replyQueue := m.replyQueue ++ [r] } :=
  congrArg (fun m => { s with mgmt := m }) (if_neg h)

theorem postReturn_of_sending (h : s.mgmt.transmitter ≠ .idle) (f : ReturnFrame) :
    postReturn f s = s.modMgmt fun m => { m with returnLine := joinReturnLine f m.returnLine } :=
  congrArg (fun m => { s with mgmt := m }) (if_neg h)

theorem postReply_of_idle (h : s.mgmt.transmitter = .idle) (r : ReplyFrame) :
    postReply r s = s.modMgmt fun m => startUpstream { m with replyQueue := m.replyQueue ++ [r] } :=
  congrArg (fun m => { s with mgmt := m }) (if_pos h)

theorem postReturn_of_idle (h : s.mgmt.transmitter = .idle) (f : ReturnFrame) :
    postReturn f s = s.modMgmt fun m => startUpstream { m with returnLine := joinReturnLine f m.returnLine } :=
  congrArg (fun m => { s with mgmt := m }) (if_pos h)

theorem exec_upstreamFrameEnd_of_sending (h : s.mgmt.transmitter ≠ .idle) :
    exec .upstreamFrameEnd s = .next (s.modMgmt startUpstream) := by
  simp only [exec, execUpstreamFrameEnd, if_neg h]

/-- Settles O44: the transmitter's choice, and how a frame joins what waits. -/
theorem upstreamOrder : Obligations.UpstreamOrder := by
  unfold Obligations.UpstreamOrder
  intro s
  refine ⟨rfl, fun h => ?_, fun h => ⟨fun f rest hl => ?_, fun r rest hl hr => ?_, fun hl hr => ?_, fun r => ?_,
    fun f hl => ?_, fun f oldest rest hl hr => ?_⟩, fun h hl hr => ⟨fun r => ?_, fun f => ?_⟩⟩
  · simp only [exec, execUpstreamFrameEnd, if_pos h]
  · rw [exec_upstreamFrameEnd_of_sending h, State.modMgmt, startUpstream_of_return hl]
  · rw [exec_upstreamFrameEnd_of_sending h, State.modMgmt, startUpstream_of_reply hl hr]
    simp only [hl]
  · rw [exec_upstreamFrameEnd_of_sending h, State.modMgmt, startUpstream_of_nothing hl hr]
    simp only [hl, hr]
  · exact postReply_of_sending h r
  · have hjoin : joinReturnLine f s.mgmt.returnLine = s.mgmt.returnLine ++ [f] := by
      rw [joinReturnLine, if_neg (show ¬ Config.returnPlaces ≤ _ from Nat.not_le.mpr hl)]
    rw [postReturn_of_sending h, State.modMgmt, hjoin]
  · have hfull : Config.returnPlaces ≤ s.mgmt.returnLine.length := by
      rw [hl, List.length_cons, hr]
      exact Nat.le_refl 4
    have hjoin : joinReturnLine f s.mgmt.returnLine = rest ++ [f] := by
      rw [joinReturnLine, if_pos hfull, hl]
      rfl
    rw [postReturn_of_sending h, State.modMgmt, hjoin]
  · have hqueue : s.mgmt.replyQueue ++ [r] = [r] := by rw [hr]; rfl
    rw [postReply_of_idle h, State.modMgmt, hqueue, startUpstream_of_reply (m := { s.mgmt with replyQueue := [r] }) hl rfl]
    simp only [hl]
  · have hjoin : joinReturnLine f s.mgmt.returnLine = [f] := by rw [hl]; rfl
    rw [postReturn_of_idle h, State.modMgmt, hjoin, startUpstream_of_return (m := { s.mgmt with returnLine := [f] }) rfl]
    simp only [hr]

/-! ## The Cycle Frame refused (O36) -/

theorem refusalFrame_eq (s : State) (r : FrameResult) (count : Half) : refusalFrame s r count =
    { result := r, generation := s.maps.active.generation
      offered := match s.maps.offered with
        | some m => m.generation
        | none => 0
      cycleCount := count, rackState := s.cycle.rackState, condition := rackCondition s
      noticeCount := s.mgmt.notices.length, inputLength := 0, status := [], image := [] } := by
  unfold refusalFrame
  cases s.maps.offered <;> rfl

/-- A refused frame, with its counter raised from what it was (R149). -/
theorem execCycleFrame_refused {body : List Byte} {r : FrameResult} (h : checkFrame s (cycleFields body) = .refused r) :
    exec (.cycleFrame body) s = .next (modCounters (fun _ => countRefusal r s.mgmt.counters)
      (postReturn (refusalFrame s r ((cycleFields body).cycleCount.getD 0)) s)) := by
  have hcount : ∀ t : State, t.mgmt.counters = s.mgmt.counters →
      modCounters (countRefusal r) t = modCounters (fun _ => countRefusal r s.mgmt.counters) t := fun t ht => by
    rw [← ht]
    rfl
  simp only [exec, execCycleFrame, h]
  rw [hcount _ (postReturn_mgmt_counters s _)]

theorem execCycleFrame_accepted {body : List Byte} {f : HeldFrame} {g : Nat} {long : Bool}
    (h : checkFrame s (cycleFields body) = .accepted f g long) : exec (.cycleFrame body) s = .next (acceptFrame f g long s) := by
  simp only [exec, execCycleFrame, h]

/-- A frame that ends before its length field is complete has a field missing. -/
theorem checkFrame_of_short (s : State) {body : List Byte} (h : body.length < 6) :
    checkFrame s (cycleFields body) = .refused .malformed := by
  match body, h with
  | [], _ => rfl
  | [_], _ => rfl
  | [_, _], _ => rfl
  | [_, _, _], _ => rfl
  | [_, _, _, _], _ => rfl
  | [_, _, _, _, _], _ => rfl

/-- The cycle count of a frame, 0 where the frame ends before it is complete (R149). -/
theorem cycleCount_getD (body : List Byte) : (cycleFields body).cycleCount.getD 0 = match body with
    | _ :: _ :: c1 :: c0 :: _ => c1 ++ c0
    | _ => 0 := by
  match body with
  | [] => rfl
  | [_] => rfl
  | [_, _] => rfl
  | [_, _, _] => rfl
  | [_, _, _, _] => rfl
  | [_, _, _, _, _] => rfl
  | _ :: _ :: _ :: _ :: _ :: _ :: _ => rfl

/-- The checks of a frame with all its fields (R148). -/
theorem checkFrame_of_fields (s : State) (g1 g0 c1 c0 n1 n0 : Byte) (output : List Byte) :
    checkFrame s (cycleFields (g1 :: g0 :: c1 :: c0 :: n1 :: n0 :: output)) =
      if 1024 < nat16 n1 n0 ∨ output.length ≠ nat16 n1 n0 then .refused .malformed
      else
        match classify s.maps (nat16 g1 g0) with
        | none => .refused .mismatch
        | some cls =>
          if nat16 n1 n0 < outputExtent (mapFor s.maps cls).entries then .refused .short
          else if s.cycle.holder.isSome then .refused .overlap
          else .accepted ⟨cls, c1 ++ c0, output⟩ (nat16 g1 g0)
            (outputExtent (mapFor s.maps cls).entries < nat16 n1 n0) := rfl

theorem classify_eq_none {b : MapBuilder} {g : Nat}
    (h : g = 0 ∨ (g ≠ b.active.generation ∧ ∀ m, b.offered = some m → g ≠ m.generation)) : classify b g = none := by
  unfold classify
  obtain h | ⟨ha, ho⟩ := h
  · exact if_pos h
  · rw [if_neg ha]
    cases hm : b.offered with
    | none => simp
    | some m => simp [Ne.symm (ho m hm)]

/-- The map that a frame's generation names, and its class (R128). -/
theorem classify_eq_some {b : MapBuilder} {g : Nat} {m : ImageMap} (hg : g ≠ 0)
    (h : (g = b.active.generation ∧ m = b.active)
      ∨ (g ≠ b.active.generation ∧ b.offered = some m ∧ g = m.generation)) :
    ∃ cls, classify b g = some cls ∧ mapFor b cls = m
      ∧ cls = (if g = b.active.generation then .active else .offered) := by
  unfold classify
  obtain ⟨ha, rfl⟩ | ⟨ha, ho, hm⟩ := h
  · exact ⟨.active, by rw [if_neg hg, if_pos ha], rfl, (if_pos ha).symm⟩
  · refine ⟨.offered, ?_, ?_, (if_neg ha).symm⟩
    · rw [if_neg hg, if_neg ha, ho]
      simp [hm]
    · rw [mapFor, ho]
      rfl

/-- Settles O36: the four checks in their order. -/
theorem cycleFrameRefused : Obligations.CycleFrameRefused := by
  unfold Obligations.CycleFrameRefused
  intro s
  refine ⟨fun body hshort => ?_, fun g1 g0 c1 c0 n1 n0 output => ⟨fun hbad => ?_, fun hn hlen => ⟨fun hg => ?_,
    fun m hg hm => ?_⟩⟩⟩
  · rw [execCycleFrame_refused (checkFrame_of_short s hshort), cycleCount_getD, refusalFrame_eq]
    rfl
  all_goals have hfields := checkFrame_of_fields s g1 g0 c1 c0 n1 n0 output
  · rw [if_pos (show 1024 < nat16 n1 n0 ∨ output.length ≠ nat16 n1 n0 from hbad)] at hfields
    rw [execCycleFrame_refused hfields, refusalFrame_eq]
    rfl
  all_goals rw [if_neg (show ¬ (1024 < nat16 n1 n0 ∨ output.length ≠ nat16 n1 n0) from
    not_or.mpr ⟨Nat.not_lt.mpr hn, not_not.mpr hlen⟩)] at hfields
  · rw [classify_eq_none (g := nat16 g1 g0) hg] at hfields
    rw [execCycleFrame_refused hfields, refusalFrame_eq]
    rfl
  · obtain ⟨cls, hcls, hmap, -⟩ := classify_eq_some (g := nat16 g1 g0) hg hm
    rw [hcls] at hfields
    dsimp only at hfields
    rw [hmap] at hfields
    refine ⟨fun hless => ?_, fun hleast hheld => ?_⟩
    · rw [if_pos (show nat16 n1 n0 < outputExtent m.entries from hless)] at hfields
      rw [execCycleFrame_refused hfields, refusalFrame_eq]
      rfl
    · rw [if_neg (show ¬ nat16 n1 n0 < outputExtent m.entries from Nat.not_lt.mpr hleast), if_pos hheld] at hfields
      rw [execCycleFrame_refused hfields, refusalFrame_eq]
      rfl

/-! ## The Cycle Frame accepted (O37) -/

/-- In a sound state the engine at an acceptance has neither a safe-exchange timer nor a safe exchange due (R150, R165). -/
theorem acceptEngine_of_sound (h : CycleSound s) (count : Half) : acceptEngine s.settings count s.cycle =
    { s.cycle with
      rackState := .run, holder := s.cycle.holder, lastCount := some count
      watchdog := some (s.settings.watchdog * s.settings.period), safeTimer := none, safeDue := false } := by
  obtain ⟨-, htimer, hdue, -⟩ := h
  unfold acceptEngine
  by_cases hs : s.cycle.rackState = .safe
  · simp only [hs, beq_self_eq_true, if_true, Bool.not_true, Bool.and_false]
    rfl
  · have hnone : s.cycle.safeTimer = none := Option.not_isSome_iff_eq_none.mp (mt htimer.mp hs)
    have hfalse : s.cycle.safeDue = false := Bool.eq_false_iff.mpr (mt hdue hs)
    have hbeq : (s.cycle.rackState == .safe) = false := beq_eq_false_iff_ne.mpr hs
    simp only [hbeq, hnone, hfalse, ite_self, Bool.false_and]
    rfl

/-- What an acceptance changes before the service, in full (R150, R165). -/
theorem frameTaken_eq (f : HeldFrame) (g : Nat) (long : Bool) (s : State) : frameTaken f g long s =
    { s with
      cycle := acceptEngine s.settings f.cycleCount s.cycle
      mgmt := { s.mgmt with
        notices := if s.cycle.rackState = .safe then queueNotice (.rackResumed g) s.mgmt.notices else s.mgmt.notices
        counters := if long then { s.mgmt.counters with long := countUp s.mgmt.counters.long }
          else s.mgmt.counters } } := by
  unfold frameTaken
  by_cases hs : s.cycle.rackState = .safe <;> cases long <;> simp only [hs, if_true, if_false] <;> rfl

/-- Settles O37: the engine at the acceptance, then the holder or the service. -/
theorem cycleFrameAccepted : Obligations.CycleFrameAccepted := by
  unfold Obligations.CycleFrameAccepted
  intro s g1 g0 c1 c0 n1 n0 output m cls hsound g n hg hn hlen hclass hleast hholder held received
  have hfields := checkFrame_of_fields s g1 g0 c1 c0 n1 n0 output
  rw [if_neg (show ¬ (1024 < nat16 n1 n0 ∨ output.length ≠ nat16 n1 n0) from
    not_or.mpr ⟨Nat.not_lt.mpr hn, not_not.mpr hlen⟩)] at hfields
  have hm : (g = s.maps.active.generation ∧ m = s.maps.active)
      ∨ (g ≠ s.maps.active.generation ∧ s.maps.offered = some m ∧ g = m.generation) := by
    obtain ⟨ha, hm, -⟩ | ⟨ha, ho, hm, -⟩ := hclass
    · exact .inl ⟨ha, hm⟩
    · exact .inr ⟨ha, ho, hm⟩
  obtain ⟨cls', hcls, hmap, hcls'⟩ := classify_eq_some hg hm
  have heq : cls' = cls := by
    rw [hcls']
    obtain ⟨ha, -, rfl⟩ | ⟨ha, -, -, rfl⟩ := hclass
    · exact if_pos ha
    · exact if_neg ha
  subst heq
  rw [show classify s.maps (nat16 g1 g0) = some cls' from hcls] at hfields
  dsimp only at hfields
  rw [hmap, if_neg (show ¬ nat16 n1 n0 < outputExtent m.entries from Nat.not_lt.mpr hleast), hholder,
    if_neg (by decide)] at hfields
  have hreceived : received = .next (acceptFrame ⟨cls', c1 ++ c0, output⟩ g (decide (outputExtent m.entries < n)) s) :=
    execCycleFrame_accepted hfields
  have htaken : frameTaken ⟨cls', c1 ++ c0, output⟩ g (decide (outputExtent m.entries < n)) s = holderFreed held := by
    have hengine := acceptEngine_of_sound hsound (c1 ++ c0)
    rw [hholder] at hengine
    rw [frameTaken_eq, hengine]
    simp only [decide_eq_true_eq]
    rfl
  rw [acceptFrame_eq, htaken] at hreceived
  refine ⟨fun hbusy => ?_, fun hidle => ?_⟩
  · rw [hreceived, if_neg (show ¬ (backplaneIdle (holderFreed held) && _) = true by
      rw [show backplaneIdle (holderFreed held) = false from hbusy]; exact Bool.false_ne_true)]
    rfl
  · rw [hreceived, if_pos (show (backplaneIdle (holderFreed held) && _) = true by
      rw [show backplaneIdle (holderFreed held) = true from hidle]; rfl)]
    exact (execFrameServiceStart_of_idle (s := held) rfl hidle).symm

/-! ## The response window (O39) -/

theorem toNat_be16 {n : Nat} (h : n < 65536) : nat16 (byteOf (n / 256)) (byteOf n) = n := by
  rw [nat16, byteOf, byteOf, BitVec.toNat_ofNat, BitVec.toNat_ofNat]
  omega

theorem be16_nat16 (hi lo : Byte) : be16 (nat16 hi lo) = [hi, lo] := by
  have hhi := hi.isLt
  have hlo := lo.isLt
  have h1 : byteOf (nat16 hi lo / 256) = hi :=
    BitVec.eq_of_toNat_eq (by rw [byteOf, BitVec.toNat_ofNat, nat16]; omega)
  have h0 : byteOf (nat16 hi lo) = lo := BitVec.eq_of_toNat_eq (by rw [byteOf, BitVec.toNat_ofNat, nat16]; omega)
  rw [be16, h1, h0]

/-- The bytes of a good response (R154, R201). -/
def wholeResponse (k : Slot) (n : Nat) (flags : Byte) (data : List Byte) : List Byte :=
  [slotByte k, flags] ++ be16 n ++ data ++ half16 (crc16 ([slotByte k, flags] ++ be16 n ++ data))

/-- A response of the right bytes, in its window, is good (R154). -/
theorem responseOutcome_whole {k : Slot} {n : Nat} (hn : n ≤ 128) (flags : Byte) {data : List Byte} (h : data.length = n) :
    responseOutcome k n true (wholeResponse k n flags data) = .good data (flags.getLsbD 0) := by
  have hnat := toNat_be16 (n := n) (by omega)
  simp [wholeResponse, be16, responseOutcome, hnat, h, half16]

/-- Any other response, and any one out of its window, is a miss (R154). -/
theorem responseOutcome_cases (k : Slot) (n : Nat) (inWindow : Bool) (response : List Byte) :
    responseOutcome k n inWindow response = .miss
      ∨ (inWindow = true ∧ ∃ flags data, data.length = n ∧ response = wholeResponse k n flags data) := by
  unfold responseOutcome
  split
  · rename_i slot flags l1 l0 rest
    dsimp only
    split
    · rename_i hgood
      simp only [Bool.and_eq_true, decide_eq_true_eq] at hgood
      obtain ⟨⟨⟨⟨⟨hin, -⟩, hcrc⟩, hslot⟩, hnat⟩, hlen⟩ := hgood
      refine .inr ⟨hin, flags, rest.take (rest.length - 2), hlen, ?_⟩
      have hsplit := List.take_append_drop (rest.length - 2) rest
      rw [wholeResponse, ← hnat, be16_nat16, ← hslot]
      have hrest : rest = rest.take (rest.length - 2)
          ++ half16 (crc16 (slot :: flags :: l1 :: l0 :: rest.take (rest.length - 2))) := by
        rw [← hcrc]
        exact hsplit.symm
      exact congrArg (fun r => slot :: flags :: l1 :: l0 :: r) hrest
    · exact .inl rfl
  · exact .inl rfl

/-- Settles O39: the outcome of the open window is recorded, and nothing else. -/
theorem windowCloseRecordsOutcome : Obligations.WindowCloseRecordsOutcome := by
  unfold Obligations.WindowCloseRecordsOutcome
  intro s x a hx
  refine ⟨fun hcut ha hlen => ?_, fun hno inWindow response => ?_⟩
  · have hexec : ∀ inWindow response, exec (.responseWindowClose inWindow response) s = .next { s with cycle := { s.cycle with
        exchange := some { x with
          outcomes := x.outcomes ++ [responseOutcome a.slot a.inputLength inWindow response] } } } := fun w response => by
      simp only [exec, execResponseWindowClose, hx, ha, hcut]
      rfl
    have hmiss : ∀ w response, responseOutcome a.slot a.inputLength w response = .miss →
        exec (.responseWindowClose w response) s = .next { s with cycle := { s.cycle with
          exchange := some { x with outcomes := x.outcomes ++ [.miss] } } } := fun w response h => by
      rw [hexec, h]
    refine ⟨fun flags data hdata => ?_, fun response hother => hmiss _ _ ?_, fun response => hmiss _ _ ?_⟩
    · refine (hexec true (wholeResponse a.slot a.inputLength flags data)).trans ?_
      rw [responseOutcome_whole hlen flags hdata]
    · obtain h | ⟨-, flags, data, hdata, hwhole⟩ := responseOutcome_cases a.slot a.inputLength true response
      · exact h
      · exact absurd hwhole (hother flags data hdata)
    · obtain h | ⟨h, -⟩ := responseOutcome_cases a.slot a.inputLength false response
      · exact h
      · cases h
  · obtain hcut | hdone := hno
    · cases ha : x.addressed[x.outcomes.length]? <;> simp only [exec, execResponseWindowClose, hx, ha, hcut]
    · have ha : x.addressed[x.outcomes.length]? = none := List.getElem?_eq_none hdone
      simp only [exec, execResponseWindowClose, hx, ha]

/-! ## One slot accounted for (O40) -/

theorem countAnswered_eq (r : SlotRecord) : countAnswered r =
    if r.cleanRun + 1 = 4096 then { r with faultRun := 0, cleanRun := 0 }
    else { r with cleanRun := r.cleanRun + 1 } := rfl

/-- Settles O40: skipped, answered, missed, or faulted at the limit. -/
theorem accountingOfOneSlot : Obligations.AccountingOfOneSlot := by
  unfold Obligations.AccountingOfOneSlot
  intro limit s a
  have hcond : ∀ o, accountSlot limit s (a, o) =
      if (s.slot a.slot).state = .running ∧ (s.slot a.slot).epoch = a.epoch then
        (match o with
        | .good data diag => takeResponse a.slot data diag s
        | .miss => takeMiss limit a.slot a.epoch s)
      else s := fun o => by
    unfold accountSlot
    exact if_congr (by rw [current, beq_iff_eq]) (by cases o <;> rfl) rfl
  refine ⟨fun o hno => by rw [hcond, if_neg hno], fun hrun hepoch => ⟨fun data diag => ?_, fun hless => ?_, fun hlimit => ?_⟩⟩
  · rw [hcond, if_pos ⟨hrun, hepoch⟩]
    dsimp only
    have hbody : slotNotice (s.modCyc a.slot fun c =>
        { c with missCount := 0, lastInput := data, inputValid := true, cardDiag := diag }) a.slot
          = .slot a.slot .running (s.slot a.slot).epoch none diag := by
      rw [slotNotice, State.modCyc_slot, hrun, State.modCyc_cyc_same]
      rfl
    rw [takeResponse, postSlotNotice, hbody]
    cases diag <;> cases (s.cyc a.slot).cardDiag <;> rfl
  · rw [hcond, if_pos ⟨hrun, hepoch⟩]
    dsimp only
    rw [takeMiss_eq, if_neg (Nat.not_le.mpr hless)]
    rfl
  · rw [hcond, if_pos ⟨hrun, hepoch⟩]
    dsimp only
    rw [takeMiss_eq, if_pos hlimit]
    have hslot : (missCounted a.slot s).slot a.slot = { s.slot a.slot with cleanRun := 0 } := by
      rw [missCounted_slot, if_pos rfl]
    refine (Awaiting.refl a.slot (missCounted a.slot s)).reported _ _ ?_ ?_
    · rw [hslot]
      exact (congrArg FaultReason.responseLost.takenIn hrun).trans rfl
    · rw [hslot]
      exact hepoch.symm

end Sys2Proof.Machine
end

section
/-!
PROOF. Exchanges: the slots addressed, the outputs sent, safe exchanges, the accounting at the end and the Return Frame
(R152, R153, R159 to R164).
-/
namespace Sys2Proof.Machine

variable {s : State}

/-! ## The addressed set (R152) -/

/-- The slots of the addressed entries are the addressed slots, in slot order. -/
theorem addressedEntries_slots (s : State) : (addressedEntries s).map (·.slot) = addressedSlots s := by
  unfold addressedEntries addressedSlots
  induction allSlots with
  | nil => rfl
  | cons k ks ih =>
    cases he : entryOf s.maps.active.entries k with
    | none =>
      rw [List.filterMap_cons_none he, ih, List.filter_cons_of_neg (by simp [he])]
    | some e =>
      have hk := entryOf_slot he
      have hserved : servedBy s e = ((s.slot k).state == .running
          && (entryOf s.maps.active.entries k).any fun e => e.epoch == (s.slot k).epoch) := by
        rw [servedBy, hk, he, Option.any_some, Bool.beq_comm (a := e.epoch)]
      rw [List.filterMap_cons_some he, List.filter_cons, List.filter_cons, hserved]
      split
      · rw [List.map_cons, ih, hk]
      · exact ih

theorem addressedSlots_nodup (s : State) : (addressedSlots s).Nodup := allSlots_nodup.filter _

/-- The output bytes of the addressed entries, by their slots. -/
theorem addressed_flatMap {F : MapEntry → List Byte} {G : Slot → List Byte}
    (h : ∀ e, entryOf s.maps.active.entries e.slot = some e → e ∈ addressedEntries s → F e = G e.slot) :
    (addressedEntries s).flatMap F = (addressedSlots s).flatMap G := by
  rw [← addressedEntries_slots, List.flatMap_map]
  exact List.flatMap_congr fun e he => h e (mem_addressedEntries he).1 he

/-- What an exchange addresses (R152, R164). -/
theorem mem_addressedOf {a : Addressed} (h : a ∈ (addressedEntries s).map addressedOf) :
    a.epoch = (s.slot a.slot).epoch
      ∧ ∃ e, entryOf s.maps.active.entries a.slot = some e ∧ a.inputLength = regionLength e.input := by
  obtain ⟨e, he, rfl⟩ := List.mem_map.mp h
  obtain ⟨hentry, -, hepoch⟩ := mem_addressedEntries he
  exact ⟨hepoch.symm, e, hentry, rfl⟩

theorem addressedOf_slots (s : State) : ((addressedEntries s).map addressedOf).map (·.slot) = addressedSlots s := by
  rw [List.map_map]
  exact addressedEntries_slots s

/-! ## Safe exchanges (O43) -/

/-- The safe output of an addressed slot, byte for byte (R59, R164). -/
theorem safeOutput_eq (s : State) (e : MapEntry) : safeOutput s e = match e.output with
    | none => []
    | some r => match (s.profile e.profile).safeMode with
      | .zero => List.replicate r.length 0
      | .hold => (s.cyc e.slot).lastOutput
      | .pattern => (List.range r.length).map fun i =>
          s.library.store.read ((s.profile e.profile).patternOffset.getD 0 + i) := by
  unfold safeOutput
  cases e.output with
  | none => rfl
  | some r =>
    cases hm : (s.profile e.profile).safeMode with
    | zero => simp only [hm]
    | hold => simp only [hm]
    | pattern => simp only [hm, Memory.readRange_eq_map]

/-- Settles O43: the timers, and the safe exchange with its bytes. -/
theorem safeExchangesRun : Obligations.SafeExchangesRun := by
  unfold Obligations.SafeExchangesRun
  intro s
  refine ⟨fun count hw hcount => ?_, fun hw => ?_, fun ht => ?_, fun ht => ?_, fun hdue hidle => ?_, fun hno => ?_⟩
  · have hlast : s.cycle.lastCount.getD 0 = count := by rw [hcount]; rfl
    simp only [exec, execCycleWatchdogExpiry, hw, if_true, hlast]
    rfl
  · simp only [exec, execCycleWatchdogExpiry, hw]
    rfl
  · simp only [exec, execSafeExchangeTimerExpiry, ht, if_true]
    rfl
  · simp only [exec, execSafeExchangeTimerExpiry, ht]
    rfl
  · let bytesOf : Slot → List Byte := fun k => match entryOf s.maps.active.entries k with
      | none => []
      | some e => match e.output with
        | none => []
        | some r => match (s.profile e.profile).safeMode with
          | .zero => List.replicate r.length 0
          | .hold => (s.cyc k).lastOutput
          | .pattern => (List.range r.length).map fun i =>
              s.library.store.read ((s.profile e.profile).patternOffset.getD 0 + i)
    have hdata : (addressedEntries s).flatMap (safeOutput s) = (addressedSlots s).flatMap bytesOf :=
      addressed_flatMap fun e he _ => by
        rw [safeOutput_eq]
        simp only [bytesOf, he]
    refine ⟨{ kind := .safe, addressed := (addressedEntries s).map addressedOf, outcomes := []
              bitTime := s.settings.rate.bitTime
              telegram := exchangeTelegram true (addressedSlots s) ((addressedSlots s).flatMap bytesOf), cut := false },
      ?_, rfl, rfl, rfl, rfl, addressedOf_slots s, fun a ha => mem_addressedOf ha, ?_⟩
    · simp only [exec, execSafeExchangeStart, hdue, hidle, Bool.and_self, if_true, startExchange, hdata,
        addressedEntries_slots]
      rfl
    · rfl
  · have hoff : (s.cycle.safeDue && backplaneIdle s) = false := by
      obtain h | h := hno <;> simp [h]
    simp only [exec, execSafeExchangeStart, hoff]
    rfl

/-! ## Normal exchanges (O38) -/

/-- An addressed slot's buffers once it has taken its region's bytes (R152). -/
def outputTaken (image : List Byte) (e : MapEntry) (c : CycleSlot) : CycleSlot :=
  { c with lastOutput := (e.output.map (imageAt image)).getD c.lastOutput }

theorem copyOutputs_cyc (f : HeldFrame) (es : List MapEntry) (hes : (es.map (·.slot)).Nodup) (s : State) :
    (∀ e ∈ es, (copyOutputs f es s).cyc e.slot = outputTaken f.output e (s.cyc e.slot))
      ∧ ∀ k, (∀ e ∈ es, e.slot ≠ k) → (copyOutputs f es s).cyc k = s.cyc k := by
  induction es generalizing s with
  | nil => exact ⟨fun e he => (by cases he), fun k _ => rfl⟩
  | cons x es ih =>
    obtain ⟨hx, hes⟩ := List.nodup_cons.mp hes
    have hne : ∀ e ∈ es, e.slot ≠ x.slot := fun e he h => hx (List.mem_map.mpr ⟨e, he, h⟩)
    obtain ⟨htaken, hkept⟩ := ih hes (copyOutput f.output x s)
    have hcons : copyOutputs f (x :: es) s = copyOutputs f es (copyOutput f.output x s) := rfl
    rw [hcons]
    refine ⟨fun e he => ?_, fun k hk => ?_⟩
    · obtain rfl | he := List.mem_cons.mp he
      · rw [hkept e.slot hne, copyOutput_cyc, if_pos rfl]
        rfl
      · rw [htaken e he, copyOutput_cyc, if_neg (hne e he)]
    · rw [hkept k fun e he => hk e (List.mem_cons_of_mem _ he), copyOutput_cyc,
        if_neg (Ne.symm (hk x List.mem_cons_self))]

/-- Taking outputs changes the buffers alone. -/
theorem copyOutputs_eq (f : HeldFrame) (es : List MapEntry) (s : State) :
    copyOutputs f es s = { s with cycle := { s.cycle with slots := (copyOutputs f es s).cycle.slots } } := by
  induction es generalizing s with
  | nil => rfl
  | cons e es ih =>
    have hone : copyOutput f.output e s
        = { s with cycle := { s.cycle with slots := (copyOutput f.output e s).cycle.slots } } := by
      unfold copyOutput
      split <;> rfl
    have h := ih (copyOutput f.output e s)
    have hcons : copyOutputs f (e :: es) s = copyOutputs f es (copyOutput f.output e s) := rfl
    rw [hcons]
    refine h.trans ?_
    generalize (copyOutputs f es (copyOutput f.output e s)).cycle.slots = v
    rw [hone]

/-- Settles O38: the addressed set, the buffers that take the frame's bytes, and the telegram. -/
theorem serviceAddressesRunningSlots : Obligations.ServiceAddressesRunningSlots := by
  unfold Obligations.ServiceAddressesRunningSlots
  intro s
  refine ⟨fun f hf hclass hidle => ?_, fun hno => ?_⟩
  · intro ks region bytesOf data head
    let es := addressedEntries s
    let u := copyOutputs f es (holderFreed s)
    have hnodup : (es.map (·.slot)).Nodup := by
      rw [addressedEntries_slots]
      exact addressedSlots_nodup s
    obtain ⟨htaken, hkept⟩ := copyOutputs_cyc f es hnodup (holderFreed s)
    have hmem_slot : ∀ k ∈ ks, ∃ e ∈ es, e.slot = k := fun k hk => by
      have hk' : k ∈ (addressedEntries s).map (·.slot) := by rw [addressedEntries_slots]; exact hk
      exact List.mem_map.mp hk'
    have hregion : ∀ e ∈ es, region e.slot = e.output := fun e he => by
      simp only [region, (mem_addressedEntries he).1]
      rfl
    have hbytes : ∀ e ∈ es, outputTaken f.output e (s.cyc e.slot)
        = match region e.slot with
          | some _ => { s.cyc e.slot with lastOutput := bytesOf e.slot }
          | none => s.cyc e.slot := fun e he => by
      simp only [bytesOf, hregion e he, outputTaken]
      cases e.output <;> rfl
    have hdata : es.flatMap (normalOutput u) = data :=
      addressed_flatMap fun e _ he => by
        have hcyc : u.cyc e.slot = outputTaken f.output e (s.cyc e.slot) := htaken e he
        simp only [normalOutput, bytesOf, hregion e he, hcyc, outputTaken]
        cases e.output <;> rfl
    have hserve : serveFrame f (holderFreed s) = startExchange (.normal f.cycleCount) es data u := by
      rw [serveFrame_eq, swapFor, hclass, if_neg (by decide)]
      exact congrArg (fun d => startExchange (.normal f.cycleCount) es d u) hdata
    let x : Exchange :=
      { kind := .normal f.cycleCount, addressed := es.map addressedOf, outcomes := [], bitTime := s.settings.rate.bitTime
        telegram := exchangeTelegram false ks data, cut := false }
    have hu : u = { holderFreed s with cycle := { (holderFreed s).cycle with slots := u.cycle.slots } } :=
      copyOutputs_eq f es (holderFreed s)
    have hstart : startExchange (.normal f.cycleCount) es data u = u.modCycle fun c => { c with exchange := some x } := by
      have hset : u.settings = s.settings := by rw [hu]; rfl
      rw [startExchange, hset, addressedEntries_slots]
      rfl
    refine ⟨u.modCycle fun c => { c with exchange := some x }, x, ?_, ?_, rfl, rfl, rfl, rfl, addressedOf_slots s,
      fun a ha => mem_addressedOf ha, rfl, fun k hk hr => ?_, fun k hk => ?_⟩
    · rw [execFrameServiceStart_of_idle hf hidle, hserve, hstart]
    · generalize hv : u.cycle.slots = v at hu
      rw [hu]
      rfl
    · obtain ⟨e, he, rfl⟩ := hmem_slot k hk
      refine (htaken e he).trans ((hbytes e he).trans ?_)
      obtain ⟨r, hr⟩ := Option.isSome_iff_exists.mp hr
      rw [hr]
    · by_cases hmem : k ∈ ks
      · have hnone := hk.resolve_left (not_not.mpr hmem)
        obtain ⟨e, he, rfl⟩ := hmem_slot k hmem
        refine (htaken e he).trans ((hbytes e he).trans ?_)
        rw [hnone]
      · refine hkept k fun e he hek => hmem ?_
        have hk' : k ∈ (addressedEntries s).map (·.slot) := List.mem_map.mpr ⟨e, he, hek⟩
        rwa [addressedEntries_slots] at hk'
  · obtain hnone | hbusy := hno
    · simp only [exec, execFrameServiceStart, hnone]
    · cases hf : s.cycle.holder with
      | none => simp only [exec, execFrameServiceStart, hf]
      | some f =>
        simp only [exec, execFrameServiceStart, hf, hbusy]
        rfl

/-! ## The end of an exchange (O41) -/

/-- Settles O41: the accounting and the Return Frame after it. -/
theorem exchangeEndFormsReturnFrame : Obligations.ExchangeEndFormsReturnFrame := by
  unfold Obligations.ExchangeEndFormsReturnFrame
  intro s x hx
  have hfinish : x.cut = false → x.addressed.length ≤ x.outcomes.length →
      exec .exchangeEnd s = .next (finishExchange x s) := fun hcut hlen => by
    simp only [exec, execExchangeEnd, hx, hcut, if_pos hlen]
    rfl
  refine ⟨fun hcut => ?_, fun hcut hlen => ?_, fun hcut hlen hk => ?_, fun count hcut hlen hk => ?_⟩
  · simp only [exec, execExchangeEnd, hx, hcut, if_true]
    rfl
  · simp only [exec, execExchangeEnd, hx, hcut, if_neg (Nat.not_le.mpr hlen)]
    rfl
  · rw [hfinish hcut hlen, finishExchange, hk]
    rfl
  · rw [hfinish hcut hlen, finishExchange, hk]
    simp only [returnFrame, refusalFrame_eq]
    rfl

end Sys2Proof.Machine
end

section
/-!
PROOF. The Return Frame (O42): what it resolves, its input image, and its bytes (R24, R160, R161, R188, R189).
-/
namespace Sys2Proof.Machine

variable {s : State}

/-! ## Slots, condition and notices -/

theorem answeredIn_iff (s : State) (x : Exchange) (k : Slot) : answeredIn s x k = true ↔
    ∃ a data diag, (a, WindowOutcome.good data diag) ∈ x.addressed.zip x.outcomes ∧ a.slot = k
      ∧ (s.slot k).state = .running ∧ (s.slot k).epoch = a.epoch := by
  simp only [answeredIn, List.any_eq_true, Bool.and_eq_true, beq_iff_eq, bne_iff_ne, ne_eq, Prod.exists]
  constructor
  · rintro ⟨a, o, hmem, ⟨⟨hslot, hgood⟩, hrun⟩, hepoch⟩
    cases o with
    | good data diag => exact ⟨a, data, diag, hmem, hslot, hrun, hepoch⟩
    | miss => exact absurd rfl hgood
  · rintro ⟨a, data, diag, hmem, hslot, hrun, hepoch⟩
    exact ⟨a, .good data diag, hmem, ⟨⟨hslot, fun h => by cases h⟩, hrun⟩, hepoch⟩

theorem anySlot_iff (p : Slot → Bool) : allSlots.any p = true ↔ ∃ k, p k = true := by
  rw [List.any_eq_true]
  exact ⟨fun ⟨k, _, hk⟩ => ⟨k, hk⟩, fun ⟨k, hk⟩ => ⟨k, mem_allSlots k, hk⟩⟩

theorem faultedSlot_iff (s : State) :
    (allSlots.any fun k => (s.slot k).state == .faulted || (s.slot k).state == .quarantined) = true ↔
      ∃ k : Slot, (s.slot k).state = .faulted ∨ (s.slot k).state = .quarantined := by
  simp only [anySlot_iff, Bool.or_eq_true, beq_iff_eq]

theorem rackCondition_fault_iff (s : State) : rackCondition s = .fault ↔
    ∃ k : Slot, (s.slot k).state = .faulted ∨ (s.slot k).state = .quarantined := by
  rw [← faultedSlot_iff, rackCondition]
  split
  · rename_i h; exact ⟨fun _ => h, fun _ => rfl⟩
  · rename_i h
    refine ⟨fun hf => ?_, fun hf => absurd hf h⟩
    split at hf <;> cases hf

/-- A slot that is in none of the states of R24's other conditions. -/
theorem settled_iff (x : SlotState) : (¬ (x = .faulted ∨ x = .quarantined) ∧ x.bringUp = false) ↔
    x = .empty ∨ x = .settling ∨ x = .present ∨ x = .running := by
  cases x <;> simp [SlotState.bringUp]

theorem rackCondition_steady_iff (s : State) : rackCondition s = .steady ↔ s.maps.offered = none ∧ ∀ k : Slot,
    (s.slot k).state = .empty ∨ (s.slot k).state = .settling ∨ (s.slot k).state = .present
      ∨ (s.slot k).state = .running := by
  simp only [← settled_iff]
  have hbring : ((allSlots.any fun k => (s.slot k).state.bringUp) || s.maps.offered.isSome) = true ↔
      (∃ k : Slot, (s.slot k).state.bringUp = true) ∨ s.maps.offered ≠ none := by
    rw [Bool.or_eq_true, anySlot_iff, Option.isSome_iff_ne_none]
  constructor
  · intro h
    rw [rackCondition] at h
    split at h
    · cases h
    · rename_i hfault
      split at h
      · cases h
      · rename_i hchanging
        rw [faultedSlot_iff] at hfault
        rw [hbring, not_or, not_not] at hchanging
        exact ⟨hchanging.2, fun k => ⟨fun hk => hfault ⟨k, hk⟩, Bool.eq_false_iff.mpr fun hk => hchanging.1 ⟨k, hk⟩⟩⟩
  · rintro ⟨hoffered, hall⟩
    rw [rackCondition, if_neg, if_neg]
    · rw [hbring]
      rintro (⟨k, hk⟩ | ho)
      · rw [(hall k).2] at hk; cases hk
      · exact ho hoffered
    · rw [faultedSlot_iff]
      rintro ⟨k, hk⟩
      exact (hall k).1 hk

theorem noticeQueued_iff (m : Management) (k : Slot) : noticeQueued m k = true ↔
    ∃ n ∈ m.notices, ∃ st e reason diag, n.body = .slot k st e reason diag := by
  simp only [noticeQueued, List.any_eq_true, beq_iff_eq]
  refine exists_congr fun n => and_congr_right fun _ => ?_
  cases n.body with
  | slot j st e reason diag =>
    simp only [subjectOf, Subject.slot.injEq, NoticeBody.slot.injEq]
    exact ⟨fun h => ⟨st, e, reason, diag, h, rfl, rfl, rfl, rfl⟩, fun ⟨_, _, _, _, h, _⟩ => h⟩
  | mapOffered | mapTaken | rackSafe | rackResumed => simp [subjectOf]

/-! ## The input image (R160) -/

theorem length_overlay {image bytes : List Byte} {o : Nat} (h : o + bytes.length ≤ image.length) :
    (overlay image o bytes).length = image.length := by
  simp only [overlay, List.length_append, List.length_take, List.length_drop]
  omega

theorem getElem?_overlay_inside {image bytes : List Byte} {o i : Nat} (h : o + bytes.length ≤ image.length)
    (hi : i < bytes.length) : (overlay image o bytes)[o + i]? = bytes[i]? := by
  have ho : (image.take o).length = o := List.length_take_of_le (by omega)
  rw [overlay, List.append_assoc, List.getElem?_append_right (by omega), ho, Nat.add_sub_cancel_left,
    List.getElem?_append_left hi]

theorem getElem?_overlay_outside {image bytes : List Byte} {o j : Nat} (h : o + bytes.length ≤ image.length)
    (hj : ¬ (o ≤ j ∧ j < o + bytes.length)) : (overlay image o bytes)[j]? = image[j]? := by
  have ho : (image.take o).length = o := List.length_take_of_le (by omega)
  by_cases hlow : j < o
  · rw [overlay, List.append_assoc, List.getElem?_append_left (by omega), List.getElem?_take_of_lt hlow]
  · have hhigh : o + bytes.length ≤ j := by omega
    rw [overlay, List.getElem?_append_right (by rw [List.length_append, ho]; exact hhigh), List.length_append, ho,
      List.getElem?_drop]
    congr 1
    omega

/-- An entry's bytes put over the image (R160). -/
def putInput (s : State) (image : List Byte) (e : MapEntry) : List Byte :=
  match e.input with
  | some r => overlay image r.offset (regionInput s e r)
  | none => image

theorem inputImage_eq (s : State) : inputImage s = s.maps.active.entries.foldl (putInput s)
    (List.replicate (inputExtent s.maps.active.entries) 0) := rfl

/-- The region holds the offset. -/
def holdsOffset (r : Region) (o : Nat) : Prop := r.offset ≤ o ∧ o < r.offset + r.length

/-- A run of entries over an image: regions that do not overlap and end within it hold their entries' bytes, and the
rest is as it was. -/
theorem foldl_putInput (es : List MapEntry)
    (hapart : (es.filterMap (·.input)).Pairwise fun a b => ∀ o, ¬ (holdsOffset a o ∧ holdsOffset b o)) (n : Nat)
    (hlen : ∀ e ∈ es, ∀ r, e.input = some r → (regionInput s e r).length = r.length ∧ r.offset + r.length ≤ n)
    (image : List Byte) (himage : image.length = n) :
    (es.foldl (putInput s) image).length = n
      ∧ (∀ e ∈ es, ∀ r, e.input = some r → ∀ i, i < r.length →
          (es.foldl (putInput s) image)[r.offset + i]? = (regionInput s e r)[i]?)
      ∧ ∀ o, (∀ e ∈ es, ∀ r, e.input = some r → ¬ holdsOffset r o) → (es.foldl (putInput s) image)[o]? = image[o]? := by
  induction es generalizing image with
  | nil => exact ⟨himage, fun e he => (by cases he), fun _ _ => rfl⟩
  | cons x es ih =>
    have hlen' : ∀ e ∈ es, ∀ r, e.input = some r → (regionInput s e r).length = r.length ∧ r.offset + r.length ≤ n :=
      fun e he => hlen e (List.mem_cons_of_mem _ he)
    rw [List.foldl_cons]
    cases hx : x.input with
    | none =>
      have hput : putInput s image x = image := by rw [putInput, hx]
      rw [List.filterMap_cons_none hx] at hapart
      obtain ⟨hl, hin, hout⟩ := ih hapart hlen' image himage
      rw [hput]
      refine ⟨hl, fun e he r hr => ?_, fun o ho => hout o fun e he => ho e (List.mem_cons_of_mem _ he)⟩
      obtain rfl | he := List.mem_cons.mp he
      · rw [hx] at hr; cases hr
      · exact hin e he r hr
    | some q =>
      obtain ⟨hbytes, hstop⟩ := hlen x List.mem_cons_self q hx
      have hfit : q.offset + (regionInput s x q).length ≤ image.length := by omega
      have hput : putInput s image x = overlay image q.offset (regionInput s x q) := by rw [putInput, hx]
      rw [List.filterMap_cons_some hx] at hapart
      obtain ⟨hq, hapart⟩ := List.pairwise_cons.mp hapart
      obtain ⟨hl, hin, hout⟩ := ih hapart hlen' (putInput s image x) (by rw [hput, length_overlay hfit, himage])
      refine ⟨hl, fun e he r hr i hi => ?_, fun o ho => ?_⟩
      · obtain rfl | he := List.mem_cons.mp he
        · obtain rfl : q = r := Option.some.inj (hx.symm.trans hr)
          rw [hout, hput, getElem?_overlay_inside hfit (by omega)]
          intro e' he' r' hr' hin'
          exact hq r' (List.mem_filterMap.mpr ⟨e', he', hr'⟩) (q.offset + i) ⟨⟨by omega, by omega⟩, hin'⟩
        · exact hin e he r hr i hi
      · rw [hout o fun e he => ho e (List.mem_cons_of_mem _ he), hput]
        refine getElem?_overlay_outside hfit fun h => ho x List.mem_cons_self q hx ?_
        rwa [hbytes] at h

/-- Each slot's entry is the one found for it, where the entries stand in slot order. -/
theorem entryOf_of_mem {es : List MapEntry} (hes : es.Pairwise fun a b => a.slot < b.slot) {e : MapEntry} (he : e ∈ es) :
    entryOf es e.slot = some e := by
  induction es with
  | nil => cases he
  | cons x es ih =>
    obtain ⟨hx, hes⟩ := List.pairwise_cons.mp hes
    obtain rfl | he := List.mem_cons.mp he
    · simp [entryOf]
    · have hne : x.slot ≠ e.slot := ne_of_lt (hx e he)
      rw [entryOf, List.find?_cons_of_neg (by simpa using hne)]
      exact ih hes he

theorem servedBy_iff (s : State) (e : MapEntry) :
    servedBy s e = true ↔ (s.slot e.slot).state = .running ∧ (s.slot e.slot).epoch = e.epoch := by
  simp [servedBy]

theorem length_regionInput (hes : EntriesSound s.maps.active.entries) (hb : BuffersSound s) {e : MapEntry}
    (he : e ∈ s.maps.active.entries) {r : Region} (hr : e.input = some r) : (regionInput s e r).length = r.length := by
  rw [regionInput]
  split
  · rename_i hserved
    obtain ⟨hrun, hepoch⟩ := (servedBy_iff s e).mp hserved
    obtain ⟨-, hinput⟩ := hb.1 e.slot e hrun (entryOf_of_mem hes.1 he) hepoch.symm
    rw [hinput, hr]
    rfl
  · exact List.length_replicate

/-! ## The bytes of a Return Frame (R188, R189) -/

theorem statusByte_eq (x : SlotStatus) : statusByte x = byteOf (stateClassCode x.stateClass
    + (if x.inputValid then 8 else 0) + (if x.cardDiag then 16 else 0) + (if x.noticeQueued then 32 else 0)) := by
  unfold statusByte
  cases x.inputValid <;> cases x.cardDiag <;> cases x.noticeQueued <;> rfl

theorem length_wire (f : ReturnFrame) : f.wire.length = 16 + f.status.length + f.image.length := by
  simp only [ReturnFrame.wire, withCrc32, be16, half16, word32, List.length_append, List.length_cons, List.length_nil,
    List.length_map]
  omega

/-- Settles O42: each item by its own lemma, the image as a run of overlays. -/
theorem returnFrameContents : Obligations.ReturnFrameContents := by
  unfold Obligations.ReturnFrameContents
  refine ⟨fun s => ⟨answeredIn_iff s, rackCondition_fault_iff s, rackCondition_steady_iff s, noticeQueued_iff s.mgmt⟩,
    fun s hes hb => ?_, fun f => ⟨?_, fun hs hi => ?_, fun hs => ?_⟩⟩
  · have hlen : ∀ e ∈ s.maps.active.entries, ∀ r, e.input = some r → (regionInput s e r).length = r.length
        ∧ r.offset + r.length ≤ inputExtent s.maps.active.entries := fun e he r hr =>
      ⟨length_regionInput hes hb he hr, stop_le_extent (List.mem_filterMap.mpr ⟨e, he, hr⟩)⟩
    obtain ⟨hl, hin, hout⟩ := foldl_putInput s.maps.active.entries hes.2.2.1 _ hlen
      (List.replicate (inputExtent s.maps.active.entries) 0) List.length_replicate
    rw [← inputImage_eq] at hl hin hout
    refine ⟨hl, fun e he r hr i hi => ?_, fun o ho hno => ?_⟩
    · rw [hin e he r hr i hi, regionInput]
      by_cases hserved : servedBy s e = true
      · rw [if_pos hserved, if_pos ((servedBy_iff s e).mp hserved)]
      · rw [if_neg hserved, if_neg (mt (servedBy_iff s e).mpr hserved)]
        exact List.getElem?_replicate_of_lt hi
    · rw [hout o hno]
      exact List.getElem?_replicate_of_lt ho
  · have hstatus : f.status.map statusByte = f.status.map _ := List.map_congr_left fun x _ => statusByte_eq x
    rw [ReturnFrame.wire, withCrc32, hstatus]
    cases f.result <;> cases f.rackState <;> cases f.condition <;> rfl
  · rw [length_wire, hs, hi]
    rfl
  · rw [length_wire, hs]

end Sys2Proof.Machine
end

section
/-!
PROOF. The head link: frames read back as commands (R169), requests dropped at a full Reply Queue (R175), and requests
refused for their arguments (R173, R193).
-/
namespace Sys2Proof.Machine

/-! ## Requests by their tag, code and arguments -/

theorem argsFit_of_requestOf {c : Instr} {tag code : Byte} {args : List Byte} (h : requestOf c = some (tag, code, args))
    (hw : c.wellFormed = true) : argsFit args = true := by
  cases c
  case unknownRequest t k a =>
    cases h
    exact ((Bool.and_eq_true ..).mp hw).2
  all_goals (cases h <;> exact hw)

theorem requestCommand_of_requestOf {c : Instr} {tag code : Byte} {args : List Byte}
    (h : requestOf c = some (tag, code, args)) (hw : c.wellFormed = true) : requestCommand tag code args = c := by
  cases c
  case unknownRequest t k a =>
    cases h
    exact Laws.Framing.unknownRequest tag code args hw _ rfl
  all_goals (cases h <;> rfl)

/-- The payload of a frame is a Cycle Frame's or a request's (R186). -/
theorem commandPayload_cases {c : Instr} {p : List Byte} (h : commandPayload c = some p) :
    (∃ body, c = .cycleFrame body ∧ p = 1 :: body)
      ∨ ∃ tag code args, requestOf c = some (tag, code, args) ∧ p = 2 :: tag :: code :: args := by
  cases c
  case cycleFrame body =>
    cases h
    exact .inl ⟨body, rfl, rfl⟩
  all_goals (cases h <;> exact .inr ⟨_, _, _, rfl, rfl⟩)

/-- Every request is taken with its tag and code by the block that serves it (R173). -/
theorem exec_of_requestOf {c : Instr} {tag code : Byte} {args : List Byte} (h : requestOf c = some (tag, code, args)) :
    ∃ serve, ∀ s, exec c s = .next (takeRequest tag code serve s) := by
  cases c <;> cases h <;> exact ⟨_, fun _ => rfl⟩

/-- Settles O46: a request without a place is counted. -/
theorem fullQueueDropsRequest : Obligations.FullQueueDropsRequest := by
  unfold Obligations.FullQueueDropsRequest
  intro c tag code args s hreq hfull
  obtain ⟨serve, hexec⟩ := exec_of_requestOf hreq
  rw [hexec, takeRequest, if_pos (show Config.replyPlaces ≤ placesTaken s.mgmt from hfull)]
  rfl

/-! ## Frames (O45) -/

theorem receiveFrame_of_size {f : List Byte} (h : f.length < 5 ∨ 1280 < f.length) (broken : Bool) :
    receiveFrame broken f = .badCrcFrame := by
  have hlimits : Config.frameLimits = (5, 1280) := rfl
  rw [receiveFrame, if_pos]
  obtain h | h := h <;> simp [hlimits, h]

/-- A whole frame of a legal size is read by its CRC-32 and its payload (R169). -/
theorem receiveFrame_append {body crc : List Byte} (hcrc : crc.length = 4) (hsize : 5 ≤ (body ++ crc).length)
    (hsize' : (body ++ crc).length ≤ 1280) : receiveFrame false (body ++ crc) =
      if crc ≠ word32 (crc32 body) then .badCrcFrame else payloadCommand body := by
  have hlen : (body ++ crc).length - 4 = body.length := by rw [List.length_append, hcrc, Nat.add_sub_cancel]
  have hlegal : ¬ (false || decide ((body ++ crc).length < Config.frameLimits.1)
      || decide ((body ++ crc).length > Config.frameLimits.2)) = true := by
    have hlimits : Config.frameLimits = (5, 1280) := rfl
    simp only [hlimits, Bool.false_or, Bool.or_eq_true, decide_eq_true_eq]
    omega
  rw [receiveFrame, if_neg hlegal]
  simp only [hlen, List.drop_left, List.take_left]

theorem receiveFrame_broken (f : List Byte) : receiveFrame true f = .badCrcFrame := by
  rw [receiveFrame, if_pos (by simp)]

/-- A frame whose payload spells no command is discarded, whatever its size. -/
theorem receiveFrame_withCrc32 {p : List Byte} (h : payloadCommand p = .badCrcFrame) (broken : Bool) :
    receiveFrame broken (withCrc32 p) = .badCrcFrame := by
  cases broken with
  | true => exact receiveFrame_broken _
  | false =>
    by_cases hsize : (withCrc32 p).length < 5 ∨ 1280 < (withCrc32 p).length
    · exact receiveFrame_of_size hsize false
    · rw [withCrc32] at hsize ⊢
      rw [receiveFrame_append rfl (by omega) (by omega), h, ite_self]

/-- A well-formed command is read back from its frame (R169, R186). -/
theorem receiveFrame_commandFrame {c : Instr} {f : List Byte} (hw : c.wellFormed = true) (hf : commandFrame c = some f) :
    receiveFrame false f = c ∧ 5 ≤ f.length ∧ f.length ≤ 1280 := by
  obtain ⟨p, hp, rfl⟩ := Option.map_eq_some_iff.mp hf
  have hread : payloadCommand p = c ∧ 1 ≤ p.length ∧ p.length ≤ 1276 := by
    have hlimits : Config.frameLimits = (5, 1280) := rfl
    obtain ⟨body, rfl, rfl⟩ | ⟨tag, code, args, hreq, rfl⟩ := commandPayload_cases hp
    · have hlen : body.length + 5 ≤ 1280 := by simpa [Instr.wellFormed, hlimits] using hw
      refine ⟨rfl, ?_, ?_⟩ <;> rw [List.length_cons] <;> omega
    · have hlen : args.length + 7 ≤ 1280 := by simpa [argsFit, hlimits] using argsFit_of_requestOf hreq hw
      refine ⟨requestCommand_of_requestOf hreq hw, ?_, ?_⟩ <;> simp only [List.length_cons] <;> omega
  obtain ⟨hcommand, hlow, hhigh⟩ := hread
  have hlen : (withCrc32 p).length = p.length + 4 := by rw [withCrc32, List.length_append]; rfl
  refine ⟨?_, by omega, by omega⟩
  rw [withCrc32] at hlen ⊢
  rw [receiveFrame_append rfl (by omega) (by omega), if_neg (not_not.mpr rfl), hcommand]

theorem setReceiver_eq_self {s : State} {g : Option (List Byte)} (h : s.mgmt.receiver = g) : s.setReceiver g = s := by
  subst h
  rfl

theorem setReceiver_setReceiver (s : State) (g g' : Option (List Byte)) :
    (s.setReceiver g).setReceiver g' = s.setReceiver g' := rfl

/-- A frame's bytes and its end, after what has been received of it (R169). -/
theorem hear_rest {s : State} {g : List Byte} (h : s.mgmt.receiver = some g) (f : List Byte) :
    (f.map LinkSymbol.byte ++ [LinkSymbol.endDelimiter]).foldl State.hear s
      = (s.handOn (receiveFrame false (g ++ f))).setReceiver none := by
  rw [List.foldl_append, State.hear_bytes s f g h]
  rfl

/-- Outside a frame everything but a start delimiter is passed over (R169). -/
theorem hear_idle {s : State} (hs : s.mgmt.receiver = none) {xs : List LinkSymbol}
    (hx : LinkSymbol.startDelimiter ∉ xs) : xs.foldl State.hear s = s := by
  induction xs with
  | nil => rfl
  | cons x xs ih =>
    obtain ⟨hne, hxs⟩ : LinkSymbol.startDelimiter ≠ x ∧ LinkSymbol.startDelimiter ∉ xs := by simpa using hx
    have hone : s.hear x = s := by
      obtain ⟨-, -, h⟩ | ⟨-, h, -⟩ | ⟨g, h, -⟩ | ⟨g, b, h, -⟩ | ⟨g, h, -⟩ := State.hear_cases s x
      · exact h
      · exact absurd h.symm hne
      all_goals rw [hs] at h; cases h
    rw [List.foldl_cons, hone]
    exact ih hxs

/-- Settles O45: frames read back or discarded, and what the receiver hears. -/
theorem receiverReadsFrames : Obligations.ReceiverReadsFrames := by
  unfold Obligations.ReceiverReadsFrames
  refine ⟨fun c f hw hf => receiveFrame_commandFrame hw hf, receiveFrame_broken, fun broken f h => receiveFrame_of_size h broken,
    fun broken body crc hlen hcrc => ?_, fun broken kind rest h1 h2 => ?_, fun broken rest hshort => ?_,
    fun s f => ⟨fun hs => ?_, fun g hs => ?_, fun g hs => ?_⟩, fun s xs hs hx => hear_idle hs hx,
    fun c s t h => exec_receiver h⟩
  · cases broken with
    | true => exact receiveFrame_broken _
    | false =>
      by_cases hsize : (body ++ crc).length < 5 ∨ 1280 < (body ++ crc).length
      · exact receiveFrame_of_size hsize false
      · rw [receiveFrame_append hlen (by omega) (by omega), if_pos hcrc]
  · exact receiveFrame_withCrc32 (p := kind :: rest) ((if_neg h1).trans (if_neg h2)) broken
  · refine receiveFrame_withCrc32 ?_ broken
    match rest, hshort with
    | [], _ => rfl
    | [_], _ => rfl
  · have hstart : s.hear .startDelimiter = s.setReceiver (some []) := by simp only [State.hear, hs]
    rw [List.append_assoc, List.foldl_append, List.foldl_cons, List.foldl_nil, hstart, hear_rest rfl, List.nil_append]
    refine (setReceiver_setReceiver (s.handOn _) (some []) none).trans (setReceiver_eq_self hs)
  · have hstart : s.hear .startDelimiter = (s.handOn .badCrcFrame).setReceiver (some []) := by
      simp only [State.hear, hs, receiveFrame_broken]
    rw [List.append_assoc, List.foldl_append, List.foldl_cons, List.foldl_nil, hstart, hear_rest rfl, List.nil_append]
    have hpending : s.pending ++ [.badCrcFrame] ++ [receiveFrame false f]
        = s.pending ++ [.badCrcFrame, receiveFrame false f] := List.append_assoc ..
    rw [← hpending]
    rfl
  · exact hear_rest hs f

end Sys2Proof.Machine
end

section
/-!
PROOF. Requests refused for their arguments (R173, R177, R193): what each block's parser takes, by the number of bytes
and by the values.
-/
namespace Sys2Proof.Machine

/-! ## Arguments with the wrong number of bytes (R191) -/

section
variable {args : List Byte}

theorem argumentBytes_of_noArgs {v : Unit} (h : noArgs args = some v) : args.length = 0 := by
  unfold noArgs at h
  split at h
  · rfl
  · cases h

theorem argumentBytes_of_slotArgs {v : Slot} (h : slotArgs args = some v) : args.length = 1 := by
  unfold slotArgs at h
  split at h
  · rfl
  · cases h

theorem argumentBytes_of_slotModeArgs {v : Slot × Mode} (h : slotModeArgs args = some v) : args.length = 2 := by
  unfold slotModeArgs at h
  split at h
  · rfl
  · cases h

theorem length_of_recordArgs {rest : List Byte} {records : List ParameterRecord} (h : recordArgs rest = some records) :
    rest.length = 5 * records.length := by
  induction rest using recordArgs.induct generalizing records with
  | case1 => cases h; rfl
  | case2 o1 o0 l1 l0 p rest ih =>
    rw [recordArgs] at h
    obtain ⟨rs, hrs, rfl⟩ := Option.map_eq_some_iff.mp h
    simp only [List.length_cons, ih hrs]
    omega
  | case3 rest hnil hcons =>
    rw [recordArgs] at h
    · cases h
    · exact hnil
    · exact hcons

theorem argumentBytes_of_profileLoadArgs {v : ProfileIndex × Profile} (h : profileLoadArgs args = some v) :
    args[14]?.map (fun n => 15 + 5 * n.toNat) = some args.length := by
  unfold profileLoadArgs at h
  split at h
  · obtain ⟨_, -, h⟩ := Option.bind_eq_some_iff.mp h
    obtain ⟨_, -, h⟩ := Option.bind_eq_some_iff.mp h
    obtain ⟨_, -, h⟩ := Option.bind_eq_some_iff.mp h
    obtain ⟨records, hrecords, h⟩ := Option.bind_eq_some_iff.mp h
    dsimp only at h
    split at h
    · rename_i hlegal
      simp only [Bool.and_eq_true, decide_eq_true_eq] at hlegal
      have hlen := length_of_recordArgs hrecords
      have hcount := hlegal.1.1.1.1.1.1
      simp only [List.getElem?_cons_succ, List.getElem?_cons_zero, Option.map_some, List.length_cons, Option.some.injEq]
      omega
    · cases h
  · cases h

theorem argumentBytes_of_profileDropArgs {v : ProfileIndex × Bool} (h : profileDropArgs args = some v) :
    args.length = 2 := by
  unfold profileDropArgs at h
  split at h
  · rfl
  · cases h

theorem argumentBytes_of_profileReadArgs {v : ProfileIndex} (h : profileReadArgs args = some v) : args.length = 1 := by
  unfold profileReadArgs at h
  split at h
  · rfl
  · cases h

theorem argumentBytes_of_ruleWriteArgs {v : RuleIndex × Rule} (h : ruleWriteArgs args = some v) : args.length = 15 := by
  unfold ruleWriteArgs at h
  split at h
  · rfl
  · cases h

theorem argumentBytes_of_ruleReadArgs {v : RuleIndex} (h : ruleReadArgs args = some v) : args.length = 1 := by
  unfold ruleReadArgs at h
  split at h
  · rfl
  · cases h

theorem argumentBytes_of_ruleDefaultArgs {v : Decision} (h : ruleDefaultArgs args = some v) : args.length = 2 := by
  unfold ruleDefaultArgs at h
  split at h
  · rfl
  · cases h

theorem argumentBytes_of_storeWriteArgs {v : Nat × List Byte} (h : storeWriteArgs args = some v) :
    args[2]?.map (fun n => 3 + n.toNat) = some args.length := by
  unfold storeWriteArgs at h
  split at h
  · dsimp only at h
    split at h
    · rename_i hlegal
      simp only [Bool.and_eq_true, decide_eq_true_eq] at hlegal
      have hcount := hlegal.1.1.1.1
      simp only [List.getElem?_cons_succ, List.getElem?_cons_zero, Option.map_some, List.length_cons, Option.some.injEq]
      omega
    · cases h
  · cases h

theorem argumentBytes_of_storeReadArgs {v : Nat × Nat} (h : storeReadArgs args = some v) : args.length = 3 := by
  unfold storeReadArgs at h
  split at h
  · rfl
  · cases h

theorem argumentBytes_of_rackSetArgs {v : RackSettings} (h : rackSetArgs args = some v) : args.length = 14 := by
  unfold rackSetArgs at h
  split at h
  · rfl
  · cases h

theorem argumentBytes_of_rackReadArgs {v : Bool} (h : rackReadArgs args = some v) : args.length = 1 := by
  unfold rackReadArgs at h
  split at h
  · rfl
  · cases h

theorem argumentBytes_of_mapReadArgs {v : FrameClass} (h : mapReadArgs args = some v) : args.length = 1 := by
  unfold mapReadArgs at h
  split at h
  · rfl
  · cases h

theorem argumentBytes_of_cardReadArgs {v : Slot × Byte × Nat} (h : cardReadArgs args = some v) : args.length = 3 := by
  unfold cardReadArgs at h
  split at h
  · rfl
  · cases h

theorem argumentBytes_of_cardWriteArgs {v : Slot × Byte × List Byte} (h : cardWriteArgs args = some v) :
    args[2]?.map (fun n => 3 + n.toNat) = some args.length := by
  unfold cardWriteArgs at h
  split at h
  · obtain ⟨_, -, h⟩ := Option.bind_eq_some_iff.mp h
    split at h
    · rename_i hlegal
      simp only [Bool.and_eq_true, decide_eq_true_eq] at hlegal
      have hcount := hlegal.1.1
      simp only [List.getElem?_cons_succ, List.getElem?_cons_zero, Option.map_some, List.length_cons, Option.some.injEq]
      omega
    · cases h
  · cases h

end

/-! ## Refusals -/

/-- The reply to a request refused for its arguments (R173, R174). -/
def badReply (tag code : Byte) (s : State) : State := postReply ⟨tag, code, .refused .badArgument, []⟩ s

theorem takeRequest_badArgument {s : State} {serve : State → State × Option Answer} (hfree : placeFree s)
    (h : serve s = badArgument s) (tag code : Byte) : takeRequest tag code serve s = badReply tag code s :=
  takeRequest_of_free hfree h tag code

section
variable {s : State} (hfree : placeFree s) (tag : Byte) {args : List Byte}
include hfree

theorem noticeFetch_bad (h : noArgs args = none) : exec (.noticeFetch tag args) s = .next (badReply tag 1 s) :=
  congrArg Host.Outcome.next (takeRequest_badArgument hfree (by simp only [serveNoticeFetch, h]) tag 1)
theorem slotMode_bad (h : slotModeArgs args = none) : exec (.slotMode tag args) s = .next (badReply tag 16 s) :=
  congrArg Host.Outcome.next (takeRequest_badArgument hfree (by simp only [serveSlotMode, h]) tag 16)
theorem slotStart_bad (h : slotArgs args = none) : exec (.slotStart tag args) s = .next (badReply tag 17 s) :=
  congrArg Host.Outcome.next (takeRequest_badArgument hfree (by simp only [serveSlotStart, h]) tag 17)
theorem slotStop_bad (h : slotArgs args = none) : exec (.slotStop tag args) s = .next (badReply tag 18 s) :=
  congrArg Host.Outcome.next (takeRequest_badArgument hfree (by simp only [serveSlotStop, h]) tag 18)
theorem slotClear_bad (h : slotArgs args = none) : exec (.slotClear tag args) s = .next (badReply tag 19 s) :=
  congrArg Host.Outcome.next (takeRequest_badArgument hfree (by simp only [serveSlotClear, h]) tag 19)
theorem slotRead_bad (h : slotArgs args = none) : exec (.slotRead tag args) s = .next (badReply tag 20 s) :=
  congrArg Host.Outcome.next (takeRequest_badArgument hfree (by simp only [serveSlotRead, h]) tag 20)
theorem profileLoad_bad (h : profileLoadArgs args = none) : exec (.profileLoad tag args) s = .next (badReply tag 32 s) :=
  congrArg Host.Outcome.next (takeRequest_badArgument hfree (by simp only [serveProfileLoad, h]) tag 32)
theorem profileDrop_bad (h : profileDropArgs args = none) : exec (.profileDrop tag args) s = .next (badReply tag 33 s) :=
  congrArg Host.Outcome.next (takeRequest_badArgument hfree (by simp only [serveProfileDrop, h]) tag 33)
theorem profilePurge_bad (h : noArgs args = none) : exec (.profilePurge tag args) s = .next (badReply tag 34 s) :=
  congrArg Host.Outcome.next (takeRequest_badArgument hfree (by simp only [serveProfilePurge, h]) tag 34)
theorem profileRead_bad (h : profileReadArgs args = none) : exec (.profileRead tag args) s = .next (badReply tag 35 s) :=
  congrArg Host.Outcome.next (takeRequest_badArgument hfree (by simp only [serveProfileRead, h]) tag 35)
theorem ruleWrite_bad (h : ruleWriteArgs args = none) : exec (.ruleWrite tag args) s = .next (badReply tag 48 s) :=
  congrArg Host.Outcome.next (takeRequest_badArgument hfree (by simp only [serveRuleWrite, h]) tag 48)
theorem ruleRead_bad (h : ruleReadArgs args = none) : exec (.ruleRead tag args) s = .next (badReply tag 49 s) :=
  congrArg Host.Outcome.next (takeRequest_badArgument hfree (by simp only [serveRuleRead, h]) tag 49)
theorem ruleDefault_bad (h : ruleDefaultArgs args = none) : exec (.ruleDefault tag args) s = .next (badReply tag 50 s) :=
  congrArg Host.Outcome.next (takeRequest_badArgument hfree (by simp only [serveRuleDefault, h]) tag 50)
theorem storeWrite_bad (h : storeWriteArgs args = none) : exec (.storeWrite tag args) s = .next (badReply tag 64 s) :=
  congrArg Host.Outcome.next (takeRequest_badArgument hfree (by simp only [serveStoreWrite, h]) tag 64)
theorem storeRead_bad (h : storeReadArgs args = none) : exec (.storeRead tag args) s = .next (badReply tag 65 s) :=
  congrArg Host.Outcome.next (takeRequest_badArgument hfree (by simp only [serveStoreRead, h]) tag 65)
theorem rackRead_bad (h : rackReadArgs args = none) : exec (.rackRead tag args) s = .next (badReply tag 81 s) :=
  congrArg Host.Outcome.next (takeRequest_badArgument hfree (by simp only [serveRackRead, h]) tag 81)
theorem mapRead_bad (h : mapReadArgs args = none) : exec (.mapRead tag args) s = .next (badReply tag 96 s) :=
  congrArg Host.Outcome.next (takeRequest_badArgument hfree (by simp only [serveMapRead, h]) tag 96)
theorem cardRead_bad (h : cardReadArgs args = none) : exec (.cardRead tag args) s = .next (badReply tag 112 s) :=
  congrArg Host.Outcome.next (takeRequest_badArgument hfree (by simp only [serveCardRead, h]) tag 112)
theorem cardWrite_bad (h : cardWriteArgs args = none) : exec (.cardWrite tag args) s = .next (badReply tag 113 s) :=
  congrArg Host.Outcome.next (takeRequest_badArgument hfree (by simp only [serveCardWrite, h]) tag 113)
theorem restart_bad (h : noArgs args = none) : exec (.restart tag args) s = .next (badReply tag 128 s) :=
  congrArg Host.Outcome.next (takeRequest_badArgument (serve := serveRestart args) hfree (by simp only [serveRestart, h]) tag 128)

/-- A refused RACK SET reports the settings in force (R174, R177; log 11). -/
theorem rackSet_bad (h : rackSetArgs args = none) : exec (.rackSet tag args) s
    = .next (postReply ⟨tag, 80, .refused .badArgument, settingsBytes s.settings⟩ s) :=
  have hserve : serveRackSet args s = (s, some ⟨.refused .badArgument, settingsBytes s.settings⟩) := by
    simp only [serveRackSet, h, rackRefusal]
  congrArg Host.Outcome.next (takeRequest_of_free hfree hserve tag 80)

end

/-- What a parser does not take, when what it takes has a number of bytes. -/
theorem none_of_length {α : Type} {parse : Option α} {n m : Option Nat} (h : ∀ v, parse = some v → n = m) (hne : n ≠ m) :
    parse = none := by
  cases hp : parse with
  | none => rfl
  | some v => exact absurd (h v hp) hne

/-- A request with another number of argument bytes than its code requires (R191). -/
theorem exec_of_wrong_length {c : Instr} {tag code : Byte} {args : List Byte} {s : State} (hw : c.wellFormed = true)
    (hreq : requestOf c = some (tag, code, args)) (hlen : argumentBytes code args ≠ some args.length)
    (hfree : placeFree s) : exec c s = .next (postReply
      ⟨tag, code, .refused .badArgument, if code = 80 then settingsBytes s.settings else []⟩ s) := by
  have hfixed : ∀ {α : Type} {parse : Option α} {n : Nat}, argumentBytes code args = some n →
      (∀ v, parse = some v → args.length = n) → parse = none := fun hn h =>
    none_of_length (fun v hv => (hn.trans (congrArg some (h v hv).symm) : argumentBytes code args = some args.length)) hlen
  cases c
  all_goals cases hreq
  case unknownRequest =>
    have hcode : code ≠ 80 := by
      rintro rfl
      exact absurd hw (by simp [Instr.wellFormed, requestCodes])
    rw [if_neg hcode]
    exact congrArg Host.Outcome.next (takeRequest_badArgument hfree rfl tag code)
  case noticeFetch => exact noticeFetch_bad hfree _ (hfixed rfl fun _ => argumentBytes_of_noArgs)
  case slotMode => exact slotMode_bad hfree _ (hfixed rfl fun _ => argumentBytes_of_slotModeArgs)
  case slotStart => exact slotStart_bad hfree _ (hfixed rfl fun _ => argumentBytes_of_slotArgs)
  case slotStop => exact slotStop_bad hfree _ (hfixed rfl fun _ => argumentBytes_of_slotArgs)
  case slotClear => exact slotClear_bad hfree _ (hfixed rfl fun _ => argumentBytes_of_slotArgs)
  case slotRead => exact slotRead_bad hfree _ (hfixed rfl fun _ => argumentBytes_of_slotArgs)
  case profileLoad => exact profileLoad_bad hfree _ (none_of_length (fun _ => argumentBytes_of_profileLoadArgs) hlen)
  case profileDrop => exact profileDrop_bad hfree _ (hfixed rfl fun _ => argumentBytes_of_profileDropArgs)
  case profilePurge => exact profilePurge_bad hfree _ (hfixed rfl fun _ => argumentBytes_of_noArgs)
  case profileRead => exact profileRead_bad hfree _ (hfixed rfl fun _ => argumentBytes_of_profileReadArgs)
  case ruleWrite => exact ruleWrite_bad hfree _ (hfixed rfl fun _ => argumentBytes_of_ruleWriteArgs)
  case ruleRead => exact ruleRead_bad hfree _ (hfixed rfl fun _ => argumentBytes_of_ruleReadArgs)
  case ruleDefault => exact ruleDefault_bad hfree _ (hfixed rfl fun _ => argumentBytes_of_ruleDefaultArgs)
  case storeWrite => exact storeWrite_bad hfree _ (none_of_length (fun _ => argumentBytes_of_storeWriteArgs) hlen)
  case storeRead => exact storeRead_bad hfree _ (hfixed rfl fun _ => argumentBytes_of_storeReadArgs)
  case rackSet => exact rackSet_bad hfree _ (hfixed rfl fun _ => argumentBytes_of_rackSetArgs)
  case rackRead => exact rackRead_bad hfree _ (hfixed rfl fun _ => argumentBytes_of_rackReadArgs)
  case mapRead => exact mapRead_bad hfree _ (hfixed rfl fun _ => argumentBytes_of_mapReadArgs)
  case cardRead => exact cardRead_bad hfree _ (hfixed rfl fun _ => argumentBytes_of_cardReadArgs)
  case cardWrite => exact cardWrite_bad hfree _ (none_of_length (fun _ => argumentBytes_of_cardWriteArgs) hlen)
  case restart => exact restart_bad hfree _ (hfixed rfl fun _ => argumentBytes_of_noArgs)

/-! ## Values outside their ranges -/

section
variable {b : Byte}

theorem slotOf_eq_none (h : b = 0 ∨ 16 < b.toNat) : slotOf b = none := by
  rw [slotOf, dif_neg]
  obtain rfl | h := h
  · decide
  · omega

theorem profileIndexOf_eq_none (h : 31 < b.toNat) : profileIndexOf b = none := by
  rw [profileIndexOf, dif_neg (by omega)]

theorem ruleIndexOf_eq_none (h : 23 < b.toNat) : ruleIndexOf b = none := by
  rw [ruleIndexOf, dif_neg (by omega)]

theorem flagOf_eq_none (h : 1 < b.toNat) : flagOf b = none := by
  have h0 : b ≠ 0 := by rintro rfl; exact absurd h (by decide)
  have h1 : b ≠ 1 := by rintro rfl; exact absurd h (by decide)
  rw [flagOf, if_neg h0, if_neg h1]

theorem modeOf_eq_none (h : 2 < b.toNat) : modeOf b = none := by
  unfold modeOf
  split
  case h_4 => rfl
  all_goals omega

theorem safeModeOf_eq_none (h : 2 < b.toNat) : safeModeOf b = none := by
  unfold safeModeOf
  split
  case h_4 => rfl
  all_goals omega

theorem ruleFieldOf_eq_none (h : 5 < b.toNat) : ruleFieldOf b = none := by
  unfold ruleFieldOf
  split
  case h_7 => rfl
  all_goals omega

theorem operatorOf_eq_none (h : 3 < b.toNat) : operatorOf b = none := by
  unfold operatorOf
  split
  case h_5 => rfl
  all_goals omega

theorem actionOf_eq_none (h : 1 < b.toNat) : actionOf b = none := by
  unfold actionOf
  split
  case h_3 => rfl
  all_goals omega

theorem rateOf_eq_none (h : b = 0 ∨ 3 < b.toNat) : rateOf b = none := by
  have hb : b.toNat = 0 ∨ 3 < b.toNat := h.imp_left fun h => by rw [h]; rfl
  unfold rateOf
  split
  case h_4 => rfl
  all_goals omega

theorem admissionOf_eq_none (h : 1 < b.toNat) : admissionOf b = none := by
  unfold admissionOf
  split
  case h_3 => rfl
  all_goals omega

end

/-- A parse that needs a value has none without it. -/
theorem bind_eq_none_of_left {α β : Type} {o : Option α} {f : α → Option β} (h : o = none) : o.bind f = none := by
  rw [h]
  rfl

theorem ruleWriteArgs_eq_none {i en f op ch ac p : Byte} (m v : BitVec 32)
    (h : 23 < i.toNat ∨ 1 < en.toNat ∨ 5 < f.toNat ∨ 3 < op.toNat ∨ 1 < ch.toNat ∨ 1 < ac.toNat ∨ 31 < p.toNat) :
    ruleWriteArgs ([i, en, f, op] ++ word32 m ++ word32 v ++ [ch, ac, p]) = none := by
  have hargs : ∀ r, ruleWriteArgs ([i, en, f, op] ++ word32 m ++ word32 v ++ [ch, ac, p]) = some r →
      (ruleIndexOf i).isSome ∧ (flagOf en).isSome ∧ (ruleFieldOf f).isSome ∧ (operatorOf op).isSome
        ∧ (flagOf ch).isSome ∧ (actionOf ac).isSome ∧ (profileIndexOf p).isSome := fun r hr => by
    simp only [word32, List.cons_append, List.nil_append, ruleWriteArgs] at hr
    obtain ⟨_, hi, hr⟩ := Option.bind_eq_some_iff.mp hr
    obtain ⟨_, hen, hr⟩ := Option.bind_eq_some_iff.mp hr
    obtain ⟨_, hf, hr⟩ := Option.bind_eq_some_iff.mp hr
    obtain ⟨_, hop, hr⟩ := Option.bind_eq_some_iff.mp hr
    obtain ⟨_, hch, hr⟩ := Option.bind_eq_some_iff.mp hr
    obtain ⟨_, hac, hr⟩ := Option.bind_eq_some_iff.mp hr
    obtain ⟨_, hp, hr⟩ := Option.map_eq_some_iff.mp hr
    simp only [hi, hen, hf, hop, hch, hac, hp, Option.isSome_some, and_self]
  cases hr : ruleWriteArgs ([i, en, f, op] ++ word32 m ++ word32 v ++ [ch, ac, p]) with
  | none => rfl
  | some r =>
    obtain ⟨hi, hen, hf, hop, hch, hac, hp⟩ := hargs r hr
    obtain h | h | h | h | h | h | h := h
    · rw [ruleIndexOf_eq_none h] at hi; cases hi
    · rw [flagOf_eq_none h] at hen; cases hen
    · rw [ruleFieldOf_eq_none h] at hf; cases hf
    · rw [operatorOf_eq_none h] at hop; cases hop
    · rw [flagOf_eq_none h] at hch; cases hch
    · rw [actionOf_eq_none h] at hac; cases hac
    · rw [profileIndexOf_eq_none h] at hp; cases hp

theorem storeReadArgs_eq_none {o1 o0 n : Byte} (h : n = 0 ∨ 240 < n.toNat ∨ 16384 < nat16 o1 o0 + n.toNat) :
    storeReadArgs [o1, o0, n] = none := by
  have hdata : Config.requestData = 240 := rfl
  have hsize : Config.storeSize = 16384 := rfl
  have hn : n.toNat = 0 ∨ 240 < n.toNat ∨ 16384 < nat16 o1 o0 + n.toNat := h.imp_left fun h => by rw [h]; rfl
  simp only [storeReadArgs]
  rw [if_neg]
  simp only [hdata, hsize, Bool.and_eq_true, decide_eq_true_eq]
  omega

theorem profileLoadArgs_eq_none {i lk sm : Byte} (h : 31 < i.toNat ∨ 1 < lk.toNat ∨ 2 < sm.toNat)
    (p1 p0 r1 r0 c1 c0 ol il al o1 o0 n : Byte) (records : List Byte) : profileLoadArgs
      ([i, lk, p1, p0, r1, r0, c1, c0, ol, il, al, sm, o1, o0, n] ++ records) = none := by
  simp only [List.cons_append, List.nil_append, profileLoadArgs]
  obtain h | h | h := h
  · exact bind_eq_none_of_left (profileIndexOf_eq_none h)
  · rw [flagOf_eq_none h]
    cases profileIndexOf i <;> rfl
  · rw [safeModeOf_eq_none h]
    cases profileIndexOf i <;> cases flagOf lk <;> rfl

theorem rackSetArgs_eq_none {r ad : Byte} (h : r = 0 ∨ 3 < r.toNat ∨ 1 < ad.toNat)
    (t1 t0 a1 a0 b1 b0 ml rg w i1 i0 rd : Byte) :
    rackSetArgs [r, t1, t0, a1, a0, b1, b0, ad, ml, rg, w, i1, i0, rd] = none := by
  simp only [rackSetArgs]
  rw [← or_assoc] at h
  obtain h | h := h
  · exact bind_eq_none_of_left (rateOf_eq_none h)
  · rw [admissionOf_eq_none h]
    cases rateOf r <;> rfl

theorem cardReadArgs_eq_none {k p n : Byte} (h : n = 0 ∨ 240 < n.toNat) : cardReadArgs [k, p, n] = none := by
  have hn : n.toNat = 0 ∨ 240 < n.toNat := h.imp_left fun h => by rw [h]; rfl
  have hdata : Config.requestData = 240 := rfl
  have hlength : ¬ (decide (1 ≤ n.toNat) && decide (n.toNat ≤ Config.requestData)) = true := by
    simp only [hdata, Bool.and_eq_true, decide_eq_true_eq]
    omega
  simp only [cardReadArgs, if_neg hlength]
  cases slotOf k <;> rfl

theorem cardWriteArgs_eq_none {k p n : Byte} (h : n = 0 ∨ 240 < n.toNat) (data : List Byte) :
    cardWriteArgs (k :: p :: n :: data) = none := by
  have hn : n.toNat = 0 ∨ 240 < n.toNat := h.imp_left fun h => by rw [h]; rfl
  have hdata : Config.requestData = 240 := rfl
  have hlength : ¬ (decide (data.length = n.toNat) && decide (1 ≤ n.toNat) && decide (n.toNat ≤ Config.requestData)) = true := by
    simp only [hdata, Bool.and_eq_true, decide_eq_true_eq]
    omega
  simp only [cardWriteArgs, if_neg hlength]
  cases slotOf k <;> rfl

theorem mapReadArgs_eq_none {b : Byte} (h : 1 < b.toNat) : mapReadArgs [b] = none := by
  have h0 : b ≠ 0 := by rintro rfl; exact absurd h (by decide)
  have h1 : b ≠ 1 := by rintro rfl; exact absurd h (by decide)
  simp only [mapReadArgs, if_neg h0, if_neg h1]

theorem profileDropArgs_eq_none {i f : Byte} (h : 31 < i.toNat ∨ 1 < f.toNat) : profileDropArgs [i, f] = none := by
  simp only [profileDropArgs]
  obtain h | h := h
  · exact bind_eq_none_of_left (profileIndexOf_eq_none h)
  · rw [flagOf_eq_none h]
    cases profileIndexOf i <;> rfl

theorem slotModeArgs_eq_none {k m : Byte} (h : slotOf k = none ∨ modeOf m = none) : slotModeArgs [k, m] = none := by
  simp only [slotModeArgs]
  obtain h | h := h
  · exact bind_eq_none_of_left h
  · rw [h]
    cases slotOf k <;> rfl

/-- Settles O47: the number of bytes, then each value. -/
theorem badArgumentsRefused : Obligations.BadArgumentsRefused := by
  unfold Obligations.BadArgumentsRefused
  refine ⟨fun c tag code args s hw hreq hlen hfree => exec_of_wrong_length hw hreq hlen hfree, fun tag s hfree => ⟨fun k hk => ?_,
    fun k m hm => ?_, fun i hi => ⟨fun f => ?_, ?_, ?_⟩, fun i f hf => ⟨?_, ?_, ?_, ?_⟩, fun i hi => ?_,
    fun i en f op ch ac p m v h => ?_, fun o1 o0 n h => ?_,
    fun i lk p1 p0 r1 r0 c1 c0 ol il al sm o1 o0 n records h => ?_,
    fun r t1 t0 a1 a0 b1 b0 ad ml rg w i1 i0 rd h => ?_, fun k p n h => ⟨?_, fun data => ?_⟩⟩⟩
  · have hslot : slotOf k = none := slotOf_eq_none hk
    refine ⟨fun m => slotMode_bad hfree tag (slotModeArgs_eq_none (.inl hslot)), slotStart_bad hfree tag hslot,
      slotStop_bad hfree tag hslot, slotClear_bad hfree tag hslot, slotRead_bad hfree tag hslot,
      fun p n => cardRead_bad hfree tag (bind_eq_none_of_left hslot),
      fun p n data => cardWrite_bad hfree tag (bind_eq_none_of_left hslot)⟩
  · exact slotMode_bad hfree tag (slotModeArgs_eq_none (.inr (modeOf_eq_none hm)))
  · exact profileDrop_bad hfree tag (profileDropArgs_eq_none (.inl hi))
  · exact profileRead_bad hfree tag (profileIndexOf_eq_none hi)
  · exact ruleDefault_bad hfree tag (congrArg (Option.map Decision.assign) (profileIndexOf_eq_none hi))
  · exact profileDrop_bad hfree tag (profileDropArgs_eq_none (.inr hf))
  · exact ruleDefault_bad hfree tag (bind_eq_none_of_left (actionOf_eq_none hf))
  · exact rackRead_bad hfree tag (flagOf_eq_none hf)
  · exact mapRead_bad hfree tag (mapReadArgs_eq_none hf)
  · exact ruleRead_bad hfree tag (ruleIndexOf_eq_none hi)
  · exact ruleWrite_bad hfree tag (ruleWriteArgs_eq_none m v h)
  · exact storeRead_bad hfree tag (storeReadArgs_eq_none h)
  · exact profileLoad_bad hfree tag (profileLoadArgs_eq_none h ..)
  · exact rackSet_bad hfree tag (rackSetArgs_eq_none h ..)
  · exact cardRead_bad hfree tag (cardReadArgs_eq_none h)
  · exact cardWrite_bad hfree tag (cardWriteArgs_eq_none h data)

end Sys2Proof.Machine
end

section
/-!
PROOF. The values that their own bytes carry (R192), the requests that read, and the layouts of their replies
(chapter 11).
-/
namespace Sys2Proof.Machine

/-! ## Values read back from their bytes (R192) -/

@[simp] theorem profileIndexOf_byteOf (i : ProfileIndex) : profileIndexOf (byteOf i.val) = some i := by
  have hi := i.isLt
  have hbyte : (byteOf i.val).toNat = i.val := toNat_byteOf (by omega)
  rw [profileIndexOf, dif_pos (by omega)]
  simp [hbyte]

@[simp] theorem ruleIndexOf_byteOf (i : RuleIndex) : ruleIndexOf (byteOf i.val) = some i := by
  have hi := i.isLt
  have hbyte : (byteOf i.val).toNat = i.val := toNat_byteOf (by omega)
  rw [ruleIndexOf, dif_pos (by omega)]
  simp [hbyte]

@[simp] theorem flagOf_flagByte (b : Bool) : flagOf (flagByte b) = some b := by cases b <;> rfl

/-! ## Requests that read (R23, R54, R68, R71, R143, R180, R182) -/

/-- The contents of a SLOT READ reply, byte by byte (R194, R195). -/
theorem slotReadBytes_eq (k : Slot) (r : SlotRecord) (claim : Option Nat) :
    slotReadBytes k r claim =
      [slotByte k, slotStateByte r.state, modeByte r.mode, r.epoch, flagByte r.cardPresent, byteOf r.faultRun]
        ++ be16 r.cleanRun
        ++ [byteOf ((if r.identity.isSome then 1 else 0) + (if r.profileIndex.isSome then 2 else 0)
              + (if claim.isSome then 4 else 0) + (if r.parkReason.isSome then 8 else 0)
              + (if r.faultReason.isSome then 16 else 0) + (if r.cardCode.isSome then 32 else 0)),
            (r.profileIndex.map fun p => byteOf p.val).getD 0]
        ++ be16 (claim.getD 0)
        ++ [(r.parkReason.map parkReasonByte).getD 0, (r.faultReason.map faultReasonByte).getD 0, r.cardCode.getD 0]
        ++ (r.identity.map identityBytes).getD (List.replicate 12 0) := by
  have hweight : ∀ (w : Nat) (b : Bool), (if b = true then w else 0) = w * b.toNat := by
    intro w b
    cases b <;> simp
  simp only [hweight, Nat.one_mul]
  rfl

theorem serveStoreRead_of_legal {o n : Nat} (h1 : 1 ≤ n) (h240 : n ≤ 240) (ho : o < 16384) (hend : o + n ≤ 16384)
    (s : State) : serveStoreRead (be16 o ++ [byteOf n]) s
      = (s, some (done ((List.range n).map fun i => s.library.store.read (o + i)))) := by
  have hargs : storeReadArgs (be16 o ++ [byteOf n]) = some (o, n) := by
    show storeReadArgs [byteOf (o / 256), byteOf o, byteOf n] = _
    rw [storeReadArgs, toNat_be16 (by omega), toNat_byteOf (by omega)]
    refine if_pos ?_
    rw [Bool.and_eq_true, Bool.and_eq_true, Bool.and_eq_true]
    exact ⟨⟨⟨decide_eq_true h1, decide_eq_true h240⟩, decide_eq_true ho⟩, decide_eq_true hend⟩
  rw [serveStoreRead, hargs, ← Memory.readRange_eq_map]

/-! ## A set of slots as two bytes (R198) -/

theorem allSlots_val_sorted : (allSlots.map (·.val)).SortedLT := by decide

/-- The number that a set of slots stands for has the bits of its slots. -/
theorem testBit_sum_two_pow (ks : List Slot) (k : Slot) :
    ((allSlots.filter (· ∈ ks)).map fun j : Slot => 2 ^ j.val).sum.testBit k.val = true ↔ k ∈ ks := by
  have hsorted : ((allSlots.filter (· ∈ ks)).map (·.val)).SortedLT :=
    (allSlots_val_sorted.pairwise.sublist (List.filter_sublist.map _)).sortedLT
  have hbits := Nat.bitIndices_sum_map_two_pow hsorted
  rw [List.map_map] at hbits
  rw [← Nat.mem_bitIndices]
  show k.val ∈ (List.map ((fun i => 2 ^ i) ∘ fun j : Slot => j.val) _).sum.bitIndices ↔ _
  rw [hbits]
  simp [mem_allSlots, Fin.val_inj]

theorem byteOf_append_byteOf (n : Nat) : (byteOf (n / 256) ++ byteOf n : Half) = BitVec.ofNat 16 n := by
  refine BitVec.eq_of_toNat_eq ?_
  rw [toNat_append_byte, byteOf, byteOf, BitVec.toNat_ofNat, BitVec.toNat_ofNat, BitVec.toNat_ofNat]
  omega

/-- Bit k − 1 of the two bytes of a set is 1 when slot k is in it (R198, R200). -/
theorem slotSetBytes_bits (ks : List Slot) : ∃ hi lo : Byte, slotSetBytes ks = [hi, lo]
    ∧ ∀ k : Slot, (hi ++ lo : Half).getLsbD k.val = true ↔ k ∈ ks := by
  refine ⟨_, _, rfl, fun k => ?_⟩
  rw [byteOf_append_byteOf, BitVec.getLsbD_ofNat, decide_eq_true k.isLt, Bool.true_and]
  exact testBit_sum_two_pow ks k

/-! ## The map of a MAP READ reply (R197) -/

theorem extent_eq_foldr_max (rs : List Region) : extent rs = (rs.map fun r => r.offset + r.length).foldr max 0 := by
  rw [List.foldr_map]
  rfl

/-- The contents of a MAP READ reply, field by field (R197). -/
theorem mapReadBytes_eq (s : State) (m : ImageMap) (orphan : MapEntry → Bool) :
    mapReadBytes s m orphan =
      be16 m.generation ++ [byteOf (allSlots.filterMap (entryOf m.entries)).length]
        ++ (allSlots.filterMap (entryOf m.entries)).flatMap (fun e => mapEntryBytes e (orphan e))
        ++ be16 (((outputRegions m.entries).map fun r => r.offset + r.length).foldr max 0)
        ++ be16 (((inputRegions m.entries).map fun r => r.offset + r.length).foldr max 0)
        ++ be16 (exchangeLength m.entries) ++ be16 (freeTime s.settings m.entries)
        ++ [byteOf s.maps.changes.length] ++ s.maps.changes.flatMap changeBytes
        ++ [byteOf s.maps.waitList.length]
        ++ s.maps.waitList.flatMap (fun k => [slotByte k, optionalByte parkReasonByte (s.slot k).parkReason])
        ++ [flagByte s.maps.recheck] := by
  rw [← extent_eq_foldr_max, ← extent_eq_foldr_max]
  rfl

/-! ## The replies and the notice records (O51) -/

/-- Settles O51: each request by what its block answers, each layout field by field. -/
theorem readsAndFetchReply : Obligations.ReadsAndFetchReply := by
  unfold Obligations.ReadsAndFetchReply
  refine ⟨fun tag s hfree => ?_, fun tag s hfree => ?_, fun count k x e reason diag => ?_,
    fun count g placed removed => ?_, fun count g => ⟨rfl, rfl⟩, fun count c => rfl, fun s m orphan => ?_⟩
  · have hdone : ∀ {t : State} {contents : List Byte} {serve : State → State × Option Answer} (code : Byte),
        serve s = (t, some (done contents)) → Host.Outcome.next (takeRequest tag code serve s)
          = (.next (postReply ⟨tag, code, .done, contents⟩ t) : Host.Outcome State Fault Refusal) :=
      fun code h => congrArg _ (exec_done_of_free hfree h tag code)
    refine ⟨fun k => hdone 20 ?_, fun i => hdone 35 ?_, fun i => hdone 49 ?_,
      fun o n h1 h240 ho hend => hdone 65 (serveStoreRead_of_legal h1 h240 ho hend s), hdone 81 rfl, hdone 81 rfl,
      hdone 96 rfl, fun m hm => hdone 96 ?_, fun hm => ?_⟩
    · rw [serveSlotRead, slotArgs_slotByte]
      exact congrArg (fun b => (s, some (done b))) (slotReadBytes_eq ..)
    · rw [serveProfileRead, profileReadArgs, profileIndexOf_byteOf]
    · rw [serveRuleRead, ruleReadArgs, ruleIndexOf_byteOf]
    · show (match s.maps.offered with | some m => _ | none => _) = _
      rw [hm]
      rfl
    · refine congrArg Host.Outcome.next (refused_of_free hfree ?_ tag 96)
      show (match s.maps.offered with | some m => _ | none => _) = _
      rw [hm]
  · refine congrArg Host.Outcome.next ((exec_done_of_free hfree (serve := serveNoticeFetch []) rfl tag 1).trans ?_)
    rw [List.length_take, List.length_drop]
    rfl
  · rcases reason with - | reason
    · rfl
    · cases reason <;> rfl
  · obtain ⟨p1, p0, hplaced, hbitsP⟩ := slotSetBytes_bits placed
    obtain ⟨r1, r0, hremoved, hbitsR⟩ := slotSetBytes_bits removed
    refine ⟨p1, p0, r1, r0, ?_, fun k => ⟨hbitsP k, hbitsR k⟩⟩
    show [2, byteOf count] ++ be16 g ++ slotSetBytes placed ++ slotSetBytes removed = _
    rw [hplaced, hremoved, List.append_assoc]
    rfl
  · have hregion : regionBytes = fun r => match r with
        | none => [0, 0, 0]
        | some r => [byteOf (r.offset / 256), byteOf r.offset] ++ [byteOf r.length] := by
      funext r
      cases r <;> rfl
    have hpark : optionalByte parkReasonByte = fun r => match r with
        | none => 0
        | some .power => 1
        | some .image => 2
        | some .cycle => 3 := by
      funext r
      rcases r with - | reason
      · rfl
      · cases reason <;> rfl
    have hchange : changeBytes = fun c => match c with
        | .add k => [0, slotByte k]
        | .drop k => [1, slotByte k] := by
      funext c
      cases c <;> rfl
    rw [mapReadBytes_eq, hchange, hpark]
    simp only [mapEntryBytes, hregion]
    rfl

end Sys2Proof.Machine
end

section
/-!
PROOF. The tables and the store: when a profile is in use, which ranges a write touches, and the requests that write a
profile, a rule or the store (chapters 3 and 4).
-/
namespace Sys2Proof.Machine

/-! ## Values read back from their bytes (R192) -/

@[simp] theorem safeModeOf_safeModeByte (m : SafeMode) : safeModeOf (safeModeByte m) = some m := by cases m <;> rfl

@[simp] theorem ruleFieldOf_ruleFieldByte (f : RuleField) : ruleFieldOf (ruleFieldByte f) = some f := by cases f <;> rfl

@[simp] theorem operatorOf_operatorByte (o : RuleOperator) : operatorOf (operatorByte o) = some o := by cases o <;> rfl

@[simp] theorem actionOf_actionByte (a : RuleAction) : actionOf (actionByte a) = some a := by cases a <;> rfl

theorem recordArgs_recordBytes {records : List ParameterRecord}
    (h : ∀ r ∈ records, r.offset < 65536 ∧ r.length < 65536) :
    recordArgs (records.flatMap recordBytes) = some records := by
  induction records with
  | nil => rfl
  | cons r rs ih =>
    obtain ⟨ho, hl⟩ := h r List.mem_cons_self
    show (recordArgs (rs.flatMap recordBytes)).map (fun rs => ⟨nat16 (byteOf (r.offset / 256)) (byteOf r.offset),
      nat16 (byteOf (r.length / 256)) (byteOf r.length), r.parameter⟩ :: rs) = _
    rw [ih fun q hq => h q (List.mem_cons_of_mem r hq), toNat_be16 ho, toNat_be16 hl]
    rfl

/-! ## Profiles in use and the ranges of the store (R58, R59, R62, R70) -/

theorem anyProfile_iff (p : ProfileIndex → Bool) : allProfiles.any p = true ↔ ∃ i, p i = true := by
  have hall : ∀ i : ProfileIndex, i ∈ allProfiles := by decide
  simp [List.any_eq_true, hall]

theorem usesProfile_iff (x : SlotState) : x.usesProfile = true ↔ x = .powerWait ∨ x = .rampQueued ∨ x = .ramping
    ∨ x = .configuring ∨ x = .mapWait ∨ x = .mapPending ∨ x = .running := by
  cases x <;> decide

/-- The bytes of the store that a valid profile's records and pattern take. -/
def Profile.Covers (p : Profile) (b : Nat) : Prop := p.valid = true ∧
  ((∃ r ∈ p.records, r.offset ≤ b ∧ b < r.offset + r.length)
    ∨ (p.safeMode = .pattern ∧ p.patternOffset.getD 0 ≤ b ∧ b < p.patternOffset.getD 0 + p.outputLength))

theorem storeRanges_cover_iff (p : Profile) (b : Nat) :
    (∃ g ∈ storeRanges p, g.offset ≤ b ∧ b < g.offset + g.length) ↔ p.Covers b := by
  unfold storeRanges Profile.Covers
  by_cases hv : p.valid = true <;> by_cases hm : p.safeMode = .pattern <;> simp [hv, hm, or_and_right, exists_or]

theorem touches_iff (p : Profile) (o n : Nat) :
    touches p ⟨o, n⟩ = true ↔ ∃ b, o ≤ b ∧ b < o + n ∧ p.Covers b := by
  simp only [touches, List.any_eq_true, overlaps_iff, ← storeRanges_cover_iff]
  constructor
  · rintro ⟨g, hg, b, hgb, ho, hn⟩
    exact ⟨b, ho, hn, g, hg, hgb⟩
  · rintro ⟨b, ho, hn, g, hg, hgb⟩
    exact ⟨g, hg, b, hgb, ho, hn⟩

/-- Settles O52: the slots and entries that name a profile, and the bytes that a range shares with its ranges. -/
theorem inUseAndTouchedRanges : Obligations.InUseAndTouchedRanges := by
  unfold Obligations.InUseAndTouchedRanges
  refine fun s => ⟨fun i => ?_, fun o n => ?_, fun o n => ?_⟩
  · rw [inUse, Bool.or_eq_true, Bool.or_eq_true, anySlot_iff]
    simp only [Bool.and_eq_true, usesProfile_iff, List.any_eq_true, Option.any_eq_true, beq_iff_eq, or_assoc, and_comm]
  · simp only [touchesLocked, anyProfile_iff, Bool.and_eq_true, touches_iff]
    rfl
  · simp only [touchesInUse, anyProfile_iff, Bool.and_eq_true, touches_iff]
    rfl

/-! ## PROFILE LOAD (R57 to R65) -/

/-- What PROFILE LOAD stores of the fields that it carries (R60, R64, R65). -/
def loadedProfile (locked : Bool) (mode : SafeMode) (draw ramp timeout pattern outLen inLen align : Nat)
    (records : List ParameterRecord) : Profile :=
  { valid := true, locked := locked, powerDraw := clamp 1 2000 draw, rampTime := clamp 1 250 ramp
    configTimeout := clamp 10 10000 timeout, outputLength := outLen, inputLength := inLen, alignment := align
    safeMode := mode, patternOffset := if mode = .pattern then some pattern else none, records := records }

/-- The fields of a PROFILE LOAD are legal (R57 to R59, R64). -/
def LegalLoad (mode : SafeMode) (pattern outLen inLen align : Nat) (records : List ParameterRecord) : Prop :=
  outLen ≤ 128 ∧ inLen ≤ 128 ∧ (align = 1 ∨ align = 2 ∨ align = 4) ∧ records.length ≤ 8
    ∧ (∀ r ∈ records, 1 ≤ r.length ∧ r.length ≤ 1024 ∧ r.offset ≤ 16383 ∧ r.offset + r.length ≤ 16384)
    ∧ (mode = .pattern → pattern ≤ 16383 ∧ pattern + outLen ≤ 16384)

theorem byteOf_eq_iff {n m : Nat} (hn : n < 256) (hm : m < 256) : byteOf n = byteOf m ↔ n = m :=
  ⟨fun h => by rw [← toNat_byteOf hn, ← toNat_byteOf hm, h], fun h => h ▸ rfl⟩

section
variable {i : ProfileIndex} {locked : Bool} {mode : SafeMode} {draw ramp timeout pattern outLen inLen align : Nat}
  {records : List ParameterRecord}

/-- The argument bytes of a PROFILE LOAD (R191). -/
def loadBytes (i : ProfileIndex) (locked : Bool) (mode : SafeMode) (draw ramp timeout pattern outLen inLen align : Nat)
    (records : List ParameterRecord) : List Byte :=
  [byteOf i.val, flagByte locked] ++ be16 draw ++ be16 ramp ++ be16 timeout
    ++ [byteOf outLen, byteOf inLen, byteOf align, safeModeByte mode] ++ be16 pattern ++ [byteOf records.length]
    ++ records.flatMap recordBytes

/-- A PROFILE LOAD is read back from its bytes when its fields are legal (R64). -/
theorem profileLoadArgs_loadBytes [Decidable (LegalLoad mode pattern outLen inLen align records)] (hdraw : draw < 65536) (hramp : ramp < 65536) (htimeout : timeout < 65536)
    (hpattern : pattern < 65536) (hout : outLen < 256) (hin : inLen < 256) (halign : align < 256)
    (hcount : records.length < 256) (hrecords : ∀ r ∈ records, r.offset < 65536 ∧ r.length < 65536) :
    profileLoadArgs (loadBytes i locked mode draw ramp timeout pattern outLen inLen align records)
      = if LegalLoad mode pattern outLen inLen align records then
          some (i, loadedProfile locked mode draw ramp timeout pattern outLen inLen align records)
        else none := by
  show profileLoadArgs (byteOf i.val :: flagByte locked :: byteOf (draw / 256) :: byteOf draw :: byteOf (ramp / 256)
    :: byteOf ramp :: byteOf (timeout / 256) :: byteOf timeout :: byteOf outLen :: byteOf inLen :: byteOf align
    :: safeModeByte mode :: byteOf (pattern / 256) :: byteOf pattern :: byteOf records.length
    :: records.flatMap recordBytes) = _
  simp only [profileLoadArgs, profileIndexOf_byteOf, flagOf_flagByte, safeModeOf_safeModeByte,
    recordArgs_recordBytes hrecords, Option.bind_some, toNat_be16 hdraw, toNat_be16 hramp, toNat_be16 htimeout,
    toNat_be16 hpattern, toNat_byteOf hout, toNat_byteOf hin, toNat_byteOf halign, toNat_byteOf hcount]
  refine if_congr ?_ rfl rfl
  have halignment : (byteOf align = 1 ∨ byteOf align = 2 ∨ byteOf align = 4) ↔ (align = 1 ∨ align = 2 ∨ align = 4) :=
    or_congr (byteOf_eq_iff halign (m := 1) (by decide))
      (or_congr (byteOf_eq_iff halign (m := 2) (by decide)) (byteOf_eq_iff halign (m := 4) (by decide)))
  simp only [Bool.and_eq_true, Bool.or_eq_true, decide_eq_true_eq, List.all_eq_true, ParameterRecord.legal_iff,
    patternLegal_iff, or_assoc, halignment, true_and, LegalLoad, and_assoc]
  grind

end

theorem serveProfileLoad_of_args {args : List Byte} {i : ProfileIndex} {p : Profile}
    (h : profileLoadArgs args = some (i, p)) (s : State) : serveProfileLoad args s =
      if (s.profile i).locked then refusal .locked s else if inUse s i then refusal .inUse s
      else (s.setProfile i p, some (done (profileBytes p))) := by
  rw [serveProfileLoad, h]

/-- Settles O53: the fields as they are read back, then the two checks. -/
theorem profileLoadReplaces : Obligations.ProfileLoadReplaces := by
  unfold Obligations.ProfileLoadReplaces
  intro tag s i locked mode draw ramp timeout pattern outLen inLen align records hfree hdraw hramp htimeout hpattern hout
    hin halign hcount hrecords
  classical
  have hargs := profileLoadArgs_loadBytes (i := i) (locked := locked) (mode := mode) (inLen := inLen) hdraw hramp htimeout
    hpattern hout hin halign hcount hrecords
  have hserve := fun hl : LegalLoad mode pattern outLen inLen align records =>
    serveProfileLoad_of_args (hargs.trans (if_pos hl)) s
  refine ⟨fun hl => profileLoad_bad hfree tag (hargs.trans (if_neg hl)), fun hl hlock => ?_, fun hl hlock huse => ?_,
    fun hl hlock huse => ?_⟩
  · exact congrArg Host.Outcome.next (refused_of_free hfree ((hserve hl).trans (if_pos hlock)) tag 32)
  · refine congrArg Host.Outcome.next (refused_of_free hfree ((hserve hl).trans ?_) tag 32)
    rw [if_neg (by rw [hlock]; exact Bool.false_ne_true), if_pos huse]
  · refine congrArg Host.Outcome.next (exec_done_of_free hfree ((hserve hl).trans ?_) tag 32)
    rw [if_neg (by rw [hlock]; exact Bool.false_ne_true), if_neg (by rw [huse]; exact Bool.false_ne_true)]
    rfl

/-! ## PROFILE DROP and PROFILE PURGE (R66, R67) -/

theorem profile_setProfile (s : State) (i j : ProfileIndex) (r : Profile) :
    (s.setProfile i r).profile j = if j = i then r else s.profile j := by
  split
  · next h => exact h ▸ look_amend_same ..
  · next h => exact look_amend_of_ne _ h _

theorem foldl_setProfile_profile (is : List ProfileIndex) (r : Profile) (s : State) (j : ProfileIndex) :
    (is.foldl (fun t i => t.setProfile i r) s).profile j = if j ∈ is then r else s.profile j := by
  induction is generalizing s with
  | nil => rfl
  | cons i is ih =>
    rw [List.foldl_cons, ih, profile_setProfile]
    by_cases hj : j ∈ is <;> by_cases hi : j = i <;> simp [hj, hi]

theorem profileDropArgs_bytes (i : ProfileIndex) (force : Bool) :
    profileDropArgs [byteOf i.val, flagByte force] = some (i, force) := by
  rw [profileDropArgs, profileIndexOf_byteOf, Option.bind_some, flagOf_flagByte]
  rfl

/-- Settles O54: a drop by its two checks, a purge as the drops of what it may drop. -/
theorem profileDropAndPurge : Obligations.ProfileDropAndPurge := by
  unfold Obligations.ProfileDropAndPurge
  refine fun tag s hfree => ⟨fun i force => ?_, ?_⟩
  · have hserve : serveProfileDrop [byteOf i.val, flagByte force] s =
        if (s.profile i).locked && !force then refusal .locked s else if inUse s i then refusal .inUse s
        else (s.setProfile i Profile.reset, some (done [flagByte (s.profile i).valid])) := by
      rw [serveProfileDrop, profileDropArgs_bytes]
    have hpass : ((s.profile i).locked = false ∨ force = true) → ¬ ((s.profile i).locked && !force) = true := by
      rintro (h | h) <;> simp [h]
    refine ⟨fun hlock hforce => ?_, fun hopen huse => ?_, fun hopen huse => ?_⟩
    · refine congrArg Host.Outcome.next (refused_of_free hfree (hserve.trans (if_pos ?_)) tag 33)
      rw [hlock, hforce]
      rfl
    · refine congrArg Host.Outcome.next (refused_of_free hfree (hserve.trans ?_) tag 33)
      rw [if_neg (hpass hopen), if_pos huse]
    · refine congrArg Host.Outcome.next (exec_done_of_free hfree (hserve.trans ?_) tag 33)
      rw [if_neg (hpass hopen), if_neg (by rw [huse]; exact Bool.false_ne_true)]
      rfl
  · exact ⟨_, congrArg Host.Outcome.next (exec_done_of_free hfree rfl tag 34),
      foldl_setProfile_profile (purgeable s) Profile.reset s, foldl_setProfile_frame (purgeable s) Profile.reset s⟩

/-! ## RULE WRITE and RULE DEFAULT (R53, R55) -/

theorem ruleWriteArgs_ruleBytes (i : RuleIndex) (r : Rule) :
    ruleWriteArgs (byteOf i.val :: ruleBytes r) = some (i, r) := by
  simp only [ruleBytes, word32, List.cons_append, List.nil_append, ruleWriteArgs, ruleIndexOf_byteOf, flagOf_flagByte,
    ruleFieldOf_ruleFieldByte, operatorOf_operatorByte, actionOf_actionByte, profileIndexOf_byteOf, append_word32,
    Option.bind_some, Option.map_some]

theorem ruleDefaultArgs_assign (p : ProfileIndex) : ruleDefaultArgs [1, byteOf p.val] = some (.assign p) := by
  show (profileIndexOf (byteOf p.val)).map Decision.assign = _
  rw [profileIndexOf_byteOf]
  rfl

/-- Settles O55: the rule and the action as they are read back from their bytes. -/
theorem ruleWriteAndDefault : Obligations.RuleWriteAndDefault := by
  unfold Obligations.RuleWriteAndDefault
  refine fun tag s hfree => ⟨fun i r => ?_, fun p => ?_, fun p => ?_⟩
  · refine congrArg Host.Outcome.next (exec_done_of_free hfree ?_ tag 48)
    show serveRuleWrite (byteOf i.val :: ruleBytes r) s = _
    rw [serveRuleWrite, ruleWriteArgs_ruleBytes]
    rfl
  · refine congrArg Host.Outcome.next (exec_done_of_free hfree ?_ tag 50)
    rw [serveRuleDefault, ruleDefaultArgs_assign]
    rfl
  · exact congrArg Host.Outcome.next (exec_done_of_free hfree rfl tag 50)

/-! ## STORE WRITE (R70) -/

/-- The store after a range is written: the bytes of the range and all others. -/
theorem Memory.read_writeRange {m : Memory} (hm : m.wf = true) {o : Nat} {data : List Byte}
    (hend : o + data.length ≤ Config.storeSize) :
    (∀ i b, data[i]? = some b → (m.writeRange o data).read (o + i) = b)
      ∧ ∀ a, (a < o ∨ o + data.length ≤ a) → (m.writeRange o data).read a = m.read a := by
  induction data generalizing m o with
  | nil => exact ⟨fun i b h => (by cases h), fun a _ => rfl⟩
  | cons v rest ih =>
    rw [List.length_cons] at hend
    obtain ⟨hin, hout⟩ := ih (Memory.write_wf hm o v) (o := o + 1) (by omega)
    refine ⟨fun i b hb => ?_, fun a ha => ?_⟩
    · cases i with
      | zero =>
        obtain rfl : v = b := Option.some.inj hb
        exact (hout o (.inl (Nat.lt_succ_self o))).trans (Memory.read_write_same hm (by omega) v)
      | succ i =>
        have hread := hin i b hb
        rwa [Nat.add_assoc, Nat.add_comm 1 i] at hread
    · rw [List.length_cons] at ha
      exact (hout a (by omega)).trans (Memory.read_write_of_ne m (by omega) v)

theorem storeWriteArgs_bytes {o : Nat} {data : List Byte} (ho : o < 65536) (hdata : data.length < 256) :
    storeWriteArgs (be16 o ++ [byteOf data.length] ++ data) =
      if 1 ≤ data.length ∧ data.length ≤ 240 ∧ o ≤ 16383 ∧ o + data.length ≤ 16384 then some (o, data) else none := by
  show storeWriteArgs (byteOf (o / 256) :: byteOf o :: byteOf data.length :: data) = _
  simp only [storeWriteArgs, toNat_be16 ho, toNat_byteOf hdata]
  refine if_congr ?_ rfl rfl
  have hd : Config.requestData = 240 := rfl
  have hs : Config.storeSize = 16384 := rfl
  simp only [Bool.and_eq_true, decide_eq_true_eq, hd, hs, true_and]
  omega

/-- Settles O56: the operands as they are read back, the two checks, and the bytes of the range. -/
theorem storeWriteWritesRange : Obligations.StoreWriteWritesRange := by
  unfold Obligations.StoreWriteWritesRange
  intro tag s o data hfree ho hdata
  have hargs := storeWriteArgs_bytes ho hdata
  have hserve : storeWriteArgs (be16 o ++ [byteOf data.length] ++ data) = some (o, data) →
      serveStoreWrite (be16 o ++ [byteOf data.length] ++ data) s =
        if touchesLocked s ⟨o, data.length⟩ then refusal .locked s
        else if touchesInUse s ⟨o, data.length⟩ then refusal .inUse s
        else (s.setStore (s.library.store.writeRange o data), some (done (be16 o ++ [byteOf data.length]))) :=
    fun h => by rw [serveStoreWrite, h]
  refine ⟨fun hl => storeWrite_bad hfree tag (hargs.trans (if_neg hl)), fun hl hlock => ?_, fun hl hlock huse => ?_,
    fun hl hlock huse hwf => ⟨s.setStore (s.library.store.writeRange o data), ?_, rfl,
      Memory.writeRange_wf hwf o data, Memory.read_writeRange hwf hl.2.2.2⟩⟩
  · refine congrArg Host.Outcome.next (refused_of_free hfree ((hserve (hargs.trans (if_pos hl))).trans ?_) tag 64)
    exact if_pos hlock
  · refine congrArg Host.Outcome.next (refused_of_free hfree ((hserve (hargs.trans (if_pos hl))).trans ?_) tag 64)
    rw [if_neg (by rw [hlock]; exact Bool.false_ne_true), if_pos huse]
  · refine congrArg Host.Outcome.next (exec_done_of_free hfree ((hserve (hargs.trans (if_pos hl))).trans ?_) tag 64)
    rw [if_neg (by rw [hlock]; exact Bool.false_ne_true), if_neg (by rw [huse]; exact Bool.false_ne_true)]

end Sys2Proof.Machine
end

section
/-!
PROOF. Runs over the slots as one event: the admission gate in slot order, and presence lines taken as asserted; then
RACK SET and the card accesses.
-/
namespace Sys2Proof.Machine

/-! ## The admission gate in slot order (R15, R16, R26) -/

/-- What a state becomes when the slots of a list enter IDENTIFYING in its order, each once (R6, R7, R40). -/
structure Admitted (ks : List Slot) (s t : State) : Prop where
  slot : ∀ j, t.slot j = if j ∈ ks then { s.slot j with state := .identifying } else s.slot j
  attempt : ∀ j, t.attempt j = if j ∈ ks then some ⟨(s.slot j).epoch, 1⟩ else s.attempt j
  notices : t.mgmt.notices = ks.foldl
    (fun queued k => queueNotice (.slot k .identifying (s.slot k).epoch none (s.cyc k).cardDiag) queued) s.mgmt.notices
  service : t.service = { s.service with
    queue := s.service.queue ++ ks.map fun k => identRead k (s.slot k).epoch }
  rest : t = { s with
    slots := t.slots, matcher := { s.matcher with attempts := t.matcher.attempts }, service := t.service
    mgmt := { s.mgmt with notices := t.mgmt.notices } }

theorem Admitted.nil (s : State) : Admitted [] s s where
  slot _ := rfl
  attempt _ := rfl
  notices := rfl
  service := by rw [List.map_nil, List.append_nil]
  rest := rfl

theorem enterIdentifying_attempt (j k : Slot) (s : State) : (enterIdentifying k s).attempt j =
    if j = k then some ⟨(s.slot k).epoch, 1⟩ else s.attempt j := by
  split
  · next h => exact h ▸ look_amend_same ..
  · next h => exact look_amend_of_ne _ h _

theorem Admitted.cons {k : Slot} {ks : List Slot} {s t : State} (hk : k ∉ ks) (h : Admitted ks (enterIdentifying k s) t) :
    Admitted (k :: ks) s t := by
  have hslot : ∀ j, j ∈ ks → (enterIdentifying k s).slot j = s.slot j := fun j hj => by
    rw [enterIdentifying_slot, if_neg (fun hjk : j = k => hk (hjk ▸ hj))]
  refine ⟨fun j => ?_, fun j => ?_, ?_, ?_, h.rest.trans rfl⟩
  · rw [h.slot]
    by_cases hj : j ∈ ks
    · rw [if_pos hj, if_pos (List.mem_cons_of_mem k hj), hslot j hj]
    · rw [if_neg hj, enterIdentifying_slot]
      by_cases hjk : j = k
      · rw [if_pos hjk, if_pos (hjk ▸ List.mem_cons_self), hjk]
      · rw [if_neg hjk, if_neg (by simp [hjk, hj])]
  · rw [h.attempt]
    by_cases hj : j ∈ ks
    · rw [if_pos hj, if_pos (List.mem_cons_of_mem k hj), hslot j hj]
    · rw [if_neg hj, enterIdentifying_attempt]
      by_cases hjk : j = k
      · rw [if_pos hjk, if_pos (hjk ▸ List.mem_cons_self), hjk]
      · rw [if_neg hjk, if_neg (by simp [hjk, hj])]
  · rw [h.notices, List.foldl_cons, enterIdentifying_eq]
    refine List.foldl_ext _ _ _ fun q j hj => ?_
    rw [← enterIdentifying_eq, hslot j hj]
    rfl
  · rw [h.service, List.map_cons, List.append_cons]
    have hreads : (ks.map fun j => identRead j ((enterIdentifying k s).slot j).epoch)
        = ks.map fun j => identRead j (s.slot j).epoch := List.map_congr_left fun j hj => by rw [hslot j hj]
    rw [hreads]
    rfl

/-- The slots that the gate takes while admission is OPEN (R15). -/
def atGate (s : State) (k : Slot) : Bool := (s.slot k).state == .present && (s.slot k).mode == .auto

theorem eachSlot_admissionGate {s : State} (hopen : s.settings.admission = .opened) {ks : List Slot} (hks : ks.Nodup) :
    Admitted (ks.filter (atGate s)) s (eachSlot ks admissionGate s) := by
  induction ks generalizing s with
  | nil => exact .nil s
  | cons k ks ih =>
    obtain ⟨hk, hks⟩ := List.nodup_cons.mp hks
    show Admitted _ s (eachSlot ks admissionGate (admissionGate k s))
    obtain ⟨hp, hm, -, hgate⟩ | ⟨hshut, hgate⟩ := admissionGate_cases s k
    · have htail : ks.filter (atGate (enterIdentifying k s)) = ks.filter (atGate s) :=
        List.filter_congr fun j hj => by
          rw [atGate, enterIdentifying_slot, if_neg (fun hjk : j = k => hk (hjk ▸ hj))]
          rfl
      rw [List.filter_cons_of_pos (by rw [atGate, hp, hm]; rfl), hgate]
      refine .cons (fun h => hk (List.mem_of_mem_filter h)) ?_
      rw [← htail]
      exact ih (by rw [enterIdentifying_settings]; exact hopen) hks
    · rw [List.filter_cons_of_neg, hgate]
      · exact ih hopen hks
      · rw [atGate, Bool.and_eq_true, beq_iff_eq, beq_iff_eq]
        exact fun h => hshut ⟨h.1, h.2, hopen⟩

theorem admissionGate_of_closed {s : State} (hshut : s.settings.admission ≠ .opened) (ks : List Slot) :
    eachSlot ks admissionGate s = s := by
  induction ks with
  | nil => rfl
  | cons k ks ih =>
    show eachSlot ks admissionGate (admissionGate k s) = s
    rw [admissionGate, if_neg (fun h => hshut h.2.2), ih]

/-! ## RACK SET (R16, R74, R123, R124, R177, R178) -/

@[simp] theorem rateOf_rateByte (r : Rate) : rateOf (rateByte r) = some r := by cases r <;> rfl

@[simp] theorem admissionOf_admissionByte (a : Admission) : admissionOf (admissionByte a) = some a := by cases a <;> rfl

theorem rackSetArgs_settingsBytes {r : RackSettings} (hperiod : r.period < 65536) (hreserve : r.reserve < 65536)
    (hbudget : r.budget < 65536) (hmiss : r.missLimit < 256) (hgrace : r.rampGrace < 256) (hwatch : r.watchdog < 256)
    (hins : r.insertionDebounce < 65536) (hrem : r.removalDebounce < 256) :
    rackSetArgs (settingsBytes r) = if 250 ≤ r.period ∧ r.period ≤ 10000 then some r else none := by
  simp only [settingsBytes, be16, List.cons_append, List.nil_append, rackSetArgs, rateOf_rateByte,
    admissionOf_admissionByte, Option.bind_some, toNat_be16 hperiod, toNat_be16 hreserve, toNat_be16 hbudget,
    toNat_be16 hins, toNat_byteOf hmiss, toNat_byteOf hgrace, toNat_byteOf hwatch, toNat_byteOf hrem, Bool.and_eq_true,
    decide_eq_true_eq]

/-- The timing and the maps in force with a set of settings: the checks of NO_FIT (R121, R123). -/
def Fitting (s : State) (r : RackSettings) : Prop :=
  r.rate.minReserve ≤ r.reserve ∧ fits r s.maps.active.entries = true
    ∧ ∀ m, s.maps.offered = some m → fits r m.entries = true

theorem rackSetReason_of_not_fitting {s : State} {r : RackSettings} (h : ¬ Fitting s r) :
    rackSetReason s r = some .noFit := by
  unfold rackSetReason
  split
  · rfl
  · next hreserve =>
    split
    · rfl
    · next hactive =>
      split
      · rfl
      · next hoffered =>
        refine absurd ⟨Nat.not_lt.mp hreserve, by simpa using hactive, fun m hm => ?_⟩ h
        rw [hm] at hoffered
        simpa using hoffered

theorem rackSetReason_of_busy {s : State} {r : RackSettings} (h : Fitting s r)
    (hbusy : r.rate ≠ s.settings.rate ∧ s.service.inFlight.isSome = true) : rackSetReason s r = some .busy := by
  obtain ⟨hreserve, hactive, hoffered⟩ := h
  unfold rackSetReason
  rw [if_neg (Nat.not_lt.mpr hreserve), if_neg (by simp [hactive]), if_neg, if_pos hbusy]
  cases hm : s.maps.offered with
  | none => simp
  | some m => simp [hoffered m hm]

/-- The five clamped settings, and the others as they are carried (R178). -/
theorem clamped_eq (r : RackSettings) : r.clamped = { r with
    missLimit := max 1 (min r.missLimit 15), rampGrace := min r.rampGrace 15, watchdog := max 2 (min r.watchdog 255)
    insertionDebounce := max 10 (min r.insertionDebounce 500)
    removalDebounce := max 1 (min r.removalDebounce 50) } := by
  simp [RackSettings.clamped, clamp]

/-- The state in which the settings are in force and nothing is handed on yet. -/
def settingsTaken (r : RackSettings) (s : State) : State := { s with mgmt := { s.mgmt with settings := r.clamped } }

/-- What a changed timing does: it sets the recheck mark and nothing else (R124). -/
theorem handTiming_eq {before : RackSettings} {s t : State} {r : RackSettings} (hm : t.maps = s.maps)
    (hset : t.settings = r.clamped) : handTiming before t = { t with maps := { t.maps with
      recheck := s.maps.recheck || r.rate != before.rate || r.period != before.period || r.reserve != before.reserve } } := by
  have hdiffers : timingDiffers before t.settings
      = (r.rate != before.rate || r.period != before.period || r.reserve != before.reserve) := by
    rw [hset, timingDiffers, bne_comm (a := before.rate), bne_comm (a := before.period), bne_comm (a := before.reserve)]
    rfl
  rw [handTiming, Bool.or_assoc, Bool.or_assoc, ← Bool.or_assoc (r.rate != _), ← hdiffers, ← hm]
  cases timingDiffers before t.settings with
  | true => rw [if_pos rfl, Bool.or_true]; rfl
  | false => rw [if_neg Bool.false_ne_true, Bool.or_false]

/-- The settings after the gate is opened or not, and the budget raised or not (R16, R74). -/
theorem putSettings_eq {r : RackSettings} {s t : State}
    (ht : handAdmission s.settings (handBudget s.settings (settingsTaken r s)) = t) (hm : t.maps = s.maps)
    (hset : t.settings = r.clamped) : putSettings r s = { t with maps := { t.maps with
      recheck := s.maps.recheck || r.rate != s.settings.rate || r.period != s.settings.period
        || r.reserve != s.settings.reserve } } := by
  rw [← handTiming_eq hm hset, ← ht]
  rfl

theorem handBudget_of_le {r : RackSettings} {s : State} (h : r.budget ≤ s.settings.budget) :
    handBudget s.settings (settingsTaken r s) = settingsTaken r s := if_neg (Nat.not_lt.mpr h)

theorem handBudget_of_lt {r : RackSettings} {s : State} (h : s.settings.budget < r.budget) :
    handBudget s.settings (settingsTaken r s) = reevaluateClaims (settingsTaken r s) := if_pos h

/-- Settles O57: the checks of R177, then the effects of R178 in the order of its table. -/
theorem rackSetPutsSettings : Obligations.RackSetPutsSettings := by
  unfold Obligations.RackSetPutsSettings
  intro tag s r hfree hperiod hreserve hbudget hmiss hgrace hwatch hins hrem
  have hargs := rackSetArgs_settingsBytes hperiod hreserve hbudget hmiss hgrace hwatch hins hrem
  have hrefused : ∀ {reason : Reason}, (250 ≤ r.period ∧ r.period ≤ 10000) → rackSetReason s r = some reason →
      exec (.rackSet tag (settingsBytes r)) s
        = .next (postReply ⟨tag, 80, .refused reason, settingsBytes s.settings⟩ s) := fun hin hreason => by
    refine congrArg Host.Outcome.next (takeRequest_of_free hfree (serve := serveRackSet (settingsBytes r))
      (a := ⟨.refused _, settingsBytes s.settings⟩) ?_ tag 80)
    simp only [serveRackSet, hargs, if_pos hin, hreason]
    rfl
  have htaken := clamped_eq r
  have hdone : ∀ {t : State}, (250 ≤ r.period ∧ r.period ≤ 10000) → Fitting s r →
      ¬ (r.rate ≠ s.settings.rate ∧ s.service.inFlight.isSome = true) →
      handAdmission s.settings (handBudget s.settings (settingsTaken r s)) = t → t.maps = s.maps →
      t.settings = r.clamped → exec (.rackSet tag (settingsBytes r)) s
        = .next (postReply ⟨tag, 80, .done, settingsBytes r.clamped⟩ { t with maps := { t.maps with
            recheck := s.maps.recheck || r.rate != s.settings.rate || r.period != s.settings.period
              || r.reserve != s.settings.reserve } }) := fun hin hfit hidle ht hm hset => by
    refine congrArg Host.Outcome.next (exec_done_of_free hfree (serve := serveRackSet (settingsBytes r)) ?_ tag 80)
    simp only [serveRackSet, hargs, if_pos hin, (rackSetReason_eq_none_iff s r).mpr ⟨hfit, hidle⟩,
      putSettings_eq ht hm hset]
  rw [← htaken]
  refine ⟨fun hout => ?_, fun hin hfit => hrefused hin (rackSetReason_of_not_fitting hfit),
    fun hin hfit hbusy => hrefused hin (rackSetReason_of_busy hfit hbusy), fun hin hfit hidle hle hshut => ?_,
    fun hin hfit hidle hlt hshut => ?_, fun hin hfit hidle hlt hopen => ?_, fun hin hfit hidle hle hopen => ?_⟩
  · exact rackSet_bad hfree tag (hargs.trans (if_neg hout))
  · exact hdone hin hfit hidle (by rw [handBudget_of_le hle]; exact if_neg hshut) rfl rfl
  · have h := hdone hin hfit hidle (t := reevaluateClaims (settingsTaken r s)) (by
      rw [handBudget_of_lt hlt, handAdmission, reevaluateClaims_settings]
      exact if_neg hshut) (reevaluateClaims_maps _) (reevaluateClaims_settings _)
    rw [settingsTaken] at h
    exact h
  · have h := hdone hin hfit hidle (t := eachSlot allSlots admissionGate (reevaluateClaims (settingsTaken r s)))
      (by
        rw [handBudget_of_lt hlt, handAdmission, reevaluateClaims_settings]
        exact if_pos hopen)
      ((eachSlot_same (·.maps) allSlots (fun k u => by simp) _).trans (reevaluateClaims_maps _))
      ((eachSlot_same (·.settings) allSlots (fun k u => by simp) _).trans (reevaluateClaims_settings _))
    rw [settingsTaken] at h
    exact h
  · have h : Admitted (allSlots.filter (atGate s)) (settingsTaken r s) (eachSlot allSlots admissionGate (settingsTaken r s)) :=
      eachSlot_admissionGate (s := settingsTaken r s) hopen.2 allSlots_nodup
    refine ⟨eachSlot allSlots admissionGate (settingsTaken r s), ?_, fun k hk => ?_, h.notices, fun k hk => ?_, h.service,
      h.rest⟩
    · refine hdone hin hfit hidle (by rw [handBudget_of_le hle]; exact if_pos hopen) ?_ ?_
      · exact eachSlot_same (·.maps) allSlots (fun k u => by simp) _
      · exact eachSlot_same (·.settings) allSlots (fun k u => by simp) _
    · exact ⟨(h.slot k).trans (if_pos hk), (h.attempt k).trans (if_pos hk)⟩
    · exact ⟨(h.slot k).trans (if_neg hk), (h.attempt k).trans (if_neg hk)⟩

/-! ## Card accesses (R88, R106) -/

section
variable {s : State} (hfree : placeFree s) (tag code : Byte) {k : Slot} {p : PassThrough} {x : Transaction}
  {serve : State → State × Option Answer} (hserve : serve s = acceptAccess k p x s)
include hfree hserve

/-- A card access: refused, or outstanding with its transaction queued (R106). -/
theorem takeRequest_of_access :
    ((s.slot k).state ≠ .running → takeRequest tag code serve s = postReply ⟨tag, code, .refused .wrongState, []⟩ s)
    ∧ ((s.slot k).state = .running → 4 ≤ s.mgmt.outstanding.length →
        takeRequest tag code serve s = postReply ⟨tag, code, .refused .busy, []⟩ s)
    ∧ ((s.slot k).state = .running → s.mgmt.outstanding.length < 4 → takeRequest tag code serve s = { s with
        mgmt := { s.mgmt with outstanding := s.mgmt.outstanding ++ [p] }
        service := { s.service with queue := s.service.queue ++ [x] } }) := by
  refine ⟨fun hr => ?_, fun hr hfull => ?_, fun hr hroom => ?_⟩
  · exact refused_of_free hfree (hserve.trans (if_pos hr)) tag code
  · refine refused_of_free hfree (hserve.trans ?_) tag code
    rw [acceptAccess, if_neg (not_not.mpr hr), if_pos (show Config.passThroughs ≤ _ from hfull)]
  · refine takeRequest_of_outstanding hfree (hserve.trans ?_) tag code
    rw [acceptAccess, if_neg (not_not.mpr hr), if_neg (show ¬ Config.passThroughs ≤ _ from Nat.not_le.mpr hroom)]
    rfl

end

/-- Settles O58: the operands as they are read back, then the acceptance of the access. -/
theorem cardAccessOutstanding : Obligations.CardAccessOutstanding := by
  unfold Obligations.CardAccessOutstanding
  intro tag q k s hfree
  refine ⟨fun n h1 h240 => ?_, fun data h1 h240 => ?_⟩
  · have hargs : cardReadArgs [slotByte k, q, byteOf n] = some (k, q, n) := by
      rw [cardReadArgs, slotOf_slotByte, Option.bind_some, toNat_byteOf (by omega)]
      exact if_pos (by rw [Bool.and_eq_true]; exact ⟨decide_eq_true h1, decide_eq_true h240⟩)
    obtain ⟨hwrong, hbusy, htaken⟩ := takeRequest_of_access hfree tag 112
      (serve := serveCardRead tag [slotByte k, q, byteOf n]) (by rw [serveCardRead, hargs])
    exact ⟨fun h => congrArg _ (hwrong h), fun h hf => congrArg _ (hbusy h hf), fun h hf => congrArg _ (htaken h hf)⟩
  · have hargs : cardWriteArgs ([slotByte k, q, byteOf data.length] ++ data) = some (k, q, data) := by
      show cardWriteArgs (slotByte k :: q :: byteOf data.length :: data) = _
      rw [cardWriteArgs, slotOf_slotByte, Option.bind_some, toNat_byteOf (by omega)]
      refine if_pos ?_
      rw [Bool.and_eq_true, Bool.and_eq_true]
      exact ⟨⟨decide_eq_true rfl, decide_eq_true h1⟩, decide_eq_true h240⟩
    obtain ⟨hwrong, hbusy, htaken⟩ := takeRequest_of_access hfree tag 113
      (serve := serveCardWrite tag ([slotByte k, q, byteOf data.length] ++ data)) (by rw [serveCardWrite, hargs])
    exact ⟨fun h => congrArg _ (hwrong h), fun h hf => congrArg _ (hbusy h hf), fun h hf => congrArg _ (htaken h hf)⟩

end Sys2Proof.Machine
end

section
/-!
PROOF. The two resets: presence lines taken as asserted in slot order, the notices of a run over the slots, and the
state of every block after a RESTART and a COLD_RESET.
-/
namespace Sys2Proof.Machine

/-! ## Presence lines taken as asserted, in slot order (R29, R37, R38) -/

/-- What a state becomes when the lines of the slots of a list are taken as asserted in its order, each slot ABSENT and
EMPTY before. -/
structure Settled (ks : List Slot) (s t : State) : Prop where
  slot : ∀ j, t.slot j = if j ∈ ks then { s.slot j with state := .settling } else s.slot j
  pres : ∀ j, t.pres j = if j ∈ ks then
      { s.pres j with
        phase := .inserting, timer := .insertion s.settings.insertionDebounce (s.slot j).epoch, line := true }
    else s.pres j
  notices : t.mgmt.notices = ks.foldl
    (fun queued k => queueNotice (.slot k .settling (s.slot k).epoch none (s.cyc k).cardDiag) queued) s.mgmt.notices
  rest : t = { s with slots := t.slots, presence := t.presence, mgmt := { s.mgmt with notices := t.mgmt.notices } }

theorem Settled.nil (s : State) : Settled [] s s where
  slot _ := rfl
  pres _ := rfl
  notices := rfl
  rest := rfl

/-- The blocks that lines taken as asserted leave. -/
theorem Settled.blocks {ks : List Slot} {s t : State} (h : Settled ks s t) : t.matcher = s.matcher
    ∧ t.library = s.library ∧ t.power = s.power ∧ t.service = s.service ∧ t.maps = s.maps ∧ t.cycle = s.cycle
    ∧ { t.mgmt with notices := [] } = { s.mgmt with notices := [] } ∧ t.pending = s.pending := by
  refine ⟨?_, ?_, ?_, ?_, ?_, ?_, ?_, ?_⟩ <;> rw [h.rest]

/-- The line of an ABSENT, EMPTY slot is taken as asserted. -/
theorem lineAsserted_of_empty {k : Slot} {s : State} (hphase : (s.pres k).phase = .absent)
    (hempty : (s.slot k).state = .empty) : lineAsserted k s = { s with
      presence := amend s.presence k fun r =>
        { r with phase := .inserting, timer := .insertion s.settings.insertionDebounce (s.slot k).epoch, line := true }
      slots := amend s.slots k fun r => { r with state := .settling }
      mgmt := { s.mgmt with
        notices := queueNotice (.slot k .settling (s.slot k).epoch none (s.cyc k).cardDiag) s.mgmt.notices } } := by
  simp only [lineAsserted, hphase, hempty, if_true, enterState_eq (x := .settling) (by decide) (by decide)]
  rfl

theorem Settled.cons {k : Slot} {ks : List Slot} {s t : State} (hk : k ∉ ks) (hphase : (s.pres k).phase = .absent)
    (hempty : (s.slot k).state = .empty) (h : Settled ks (lineAsserted k s) t) : Settled (k :: ks) s t := by
  rw [lineAsserted_of_empty hphase hempty] at h
  have hne : ∀ j, j ∈ ks → j ≠ k := fun j hj hjk => hk (hjk ▸ hj)
  have hslot : ∀ j, look (amend s.slots k fun r => { r with state := .settling }) j
      = if j = k then { s.slot k with state := .settling } else s.slot j := fun j => by
    split
    · next hj => exact hj ▸ look_amend_same ..
    · next hj => exact look_amend_of_ne _ hj _
  have hpres : ∀ j, look (amend s.presence k fun r =>
        { r with phase := .inserting, timer := .insertion s.settings.insertionDebounce (s.slot k).epoch, line := true }) j
      = if j = k then { s.pres k with
          phase := .inserting, timer := .insertion s.settings.insertionDebounce (s.slot k).epoch, line := true }
        else s.pres j := fun j => by
    split
    · next hj => exact hj ▸ look_amend_same ..
    · next hj => exact look_amend_of_ne _ hj _
  refine ⟨fun j => ?_, fun j => ?_, ?_, h.rest.trans rfl⟩
  · rw [h.slot]
    by_cases hj : j ∈ ks
    · rw [if_pos hj, if_pos (List.mem_cons_of_mem k hj)]
      exact congrArg (fun r : SlotRecord => { r with state := .settling }) ((hslot j).trans (if_neg (hne j hj)))
    · rw [if_neg hj]
      refine (hslot j).trans ?_
      by_cases hjk : j = k
      · rw [if_pos hjk, if_pos (hjk ▸ List.mem_cons_self), hjk]
      · rw [if_neg hjk, if_neg (by simp [hjk, hj])]
  · rw [h.pres]
    by_cases hj : j ∈ ks
    · rw [if_pos hj, if_pos (List.mem_cons_of_mem k hj)]
      have hs := (hslot j).trans (if_neg (hne j hj))
      have hp := (hpres j).trans (if_neg (hne j hj))
      simp only [State.slot, State.pres] at hs hp ⊢
      rw [hs, hp]
      rfl
    · rw [if_neg hj]
      refine (hpres j).trans ?_
      by_cases hjk : j = k
      · rw [if_pos hjk, if_pos (hjk ▸ List.mem_cons_self), hjk]
      · rw [if_neg hjk, if_neg (by simp [hjk, hj])]
  · rw [h.notices, List.foldl_cons]
    refine List.foldl_ext _ _ _ fun q j hj => ?_
    have hs := (hslot j).trans (if_neg (hne j hj))
    simp only [State.slot] at hs ⊢
    rw [hs]
    rfl

/-- A run over the slots that takes the lines of some ABSENT, EMPTY ones as asserted and leaves the others. -/
theorem eachSlot_lines {act : Slot → State → State} {p : Slot → Bool} {s : State} {ks : List Slot} (hks : ks.Nodup)
    (hact : ∀ k ∈ ks, ∀ u : State, u.pres k = s.pres k → u.slot k = s.slot k →
      act k u = if p k = true then lineAsserted k u else u)
    (hempty : ∀ k ∈ ks, p k = true → (s.pres k).phase = .absent ∧ (s.slot k).state = .empty) :
    Settled (ks.filter p) s (eachSlot ks act s) := by
  induction ks generalizing s with
  | nil => exact .nil s
  | cons k ks ih =>
    obtain ⟨hk, hks⟩ := List.nodup_cons.mp hks
    show Settled _ s (eachSlot ks act (act k s))
    rw [hact k List.mem_cons_self s rfl rfl]
    have hne : ∀ j, j ∈ ks → j ≠ k := fun j hj hjk => hk (hjk ▸ hj)
    by_cases hp : p k = true
    · obtain ⟨hphase, hslot⟩ := hempty k List.mem_cons_self hp
      rw [if_pos hp, List.filter_cons_of_pos hp]
      refine .cons (fun h => hk (List.mem_of_mem_filter h)) hphase hslot (ih hks (fun j hj u hu hus => ?_) fun j hj hpj => ?_)
      · rw [lineAsserted_pres_of_ne (hne j hj)] at hu
        rw [lineAsserted_slot_of_ne (hne j hj)] at hus
        exact hact j (List.mem_cons_of_mem k hj) u hu hus
      · rw [lineAsserted_pres_of_ne (hne j hj), lineAsserted_slot_of_ne (hne j hj)]
        exact hempty j (List.mem_cons_of_mem k hj) hpj
    · rw [if_neg hp, List.filter_cons_of_neg hp]
      exact ih hks (fun j hj => hact j (List.mem_cons_of_mem k hj)) fun j hj => hempty j (List.mem_cons_of_mem k hj)

/-! ## The notices of a run over the slots (R181) -/

theorem queueNotice_of_fresh {b : NoticeBody} {q : List Notice} (h : ∀ n ∈ q, subjectOf n.body ≠ subjectOf b) :
    queueNotice b q = q ++ [⟨1, b⟩] := by
  induction q with
  | nil => rfl
  | cons n q ih =>
    rw [queueNotice, if_neg (h n List.mem_cons_self), ih fun m hm => h m (List.mem_cons_of_mem n hm)]
    rfl

/-- Each slot of a run posts one notice, none of them queued before. -/
theorem foldl_queueNotice_fresh {body : Slot → NoticeBody} (hbody : ∀ k, subjectOf (body k) = .slot k) {ks : List Slot}
    (hks : ks.Nodup) {q : List Notice} (h : ∀ n ∈ q, ∀ k ∈ ks, subjectOf n.body ≠ .slot k) :
    ks.foldl (fun queued k => queueNotice (body k) queued) q = q ++ ks.map fun k => ⟨1, body k⟩ := by
  induction ks generalizing q with
  | nil => rw [List.map_nil, List.append_nil]; rfl
  | cons k ks ih =>
    obtain ⟨hk, hks⟩ := List.nodup_cons.mp hks
    have hfresh : queueNotice (body k) q = q ++ [⟨1, body k⟩] := queueNotice_of_fresh fun n hn => by
      rw [hbody]
      exact h n hn k List.mem_cons_self
    rw [List.foldl_cons, hfresh, ih hks, List.append_assoc]
    · rfl
    · intro n hn j hj
      obtain hn | hn := List.mem_append.mp hn
      · exact h n hn j (List.mem_cons_of_mem k hj)
      · obtain rfl := List.mem_singleton.mp hn
        rw [hbody]
        rintro heq
        obtain rfl : k = j := by injection heq
        exact hk hj

theorem mem_filter_allSlots {p : Slot → Bool} {k : Slot} : k ∈ allSlots.filter p ↔ p k = true := by
  simp [List.mem_filter, mem_allSlots]

theorem allSlots_filter_nodup (p : Slot → Bool) : (allSlots.filter p).Nodup := allSlots_nodup.filter p

/-! ## COLD_RESET (R25, R37) -/

/-- The cold state and the slots whose lines are then taken as asserted. -/
theorem coldReset_settled (s : State) :
    Settled (allSlots.filter fun k => (s.pres k).line) (coldState s) (eachSlot allSlots redetect (coldState s)) := by
  refine eachSlot_lines allSlots_nodup (fun k _ u hu _ => ?_) fun k _ _ => ?_
  · rw [redetect, hu, coldState_pres]
    rfl
  · rw [coldState_pres, coldState_slot]
    exact ⟨rfl, rfl⟩

/-- Settles O60: the cold state, and each slot with its line asserted taken to SETTLING. -/
theorem coldResetRedetects : Obligations.ColdResetRedetects := by
  unfold Obligations.ColdResetRedetects
  intro s
  have h := coldReset_settled s
  have hnotices : (eachSlot allSlots redetect (coldState s)).mgmt.notices
      = (allSlots.filter fun k => (s.pres k).line).map fun k => ⟨1, .slot k .settling 0 none false⟩ := by
    have hquiet : (coldState s).mgmt.notices = [] := rfl
    have hbody : ∀ k, NoticeBody.slot k .settling ((coldState s).slot k).epoch none ((coldState s).cyc k).cardDiag
        = .slot k .settling 0 none false := fun k => by
      rw [coldState_slot, show (coldState s).cyc k = CycleSlot.reset from look_replicate CycleSlot.reset k]
      rfl
    rw [h.notices, hquiet]
    simp only [hbody]
    exact foldl_queueNotice_fresh (body := fun k => .slot k .settling 0 none false) (fun _ => rfl)
      (allSlots_filter_nodup _) (q := []) (fun n hn => absurd hn List.not_mem_nil)
  refine ⟨eachSlot allSlots redetect (coldState s), rfl, ?_⟩
  generalize eachSlot allSlots redetect (coldState s) = t at h hnotices ⊢
  obtain ⟨hmatcher, hlibrary, hpower, hservice, hmaps, hcycle, hmgmt, hpending⟩ := h.blocks
  refine ⟨fun k => ?_, fun k => ?_, fun k => ?_, ?_, hmatcher, hlibrary, hservice, hmaps, hcycle, hmgmt, fun k hk => ?_,
    fun n hn => ?_, hpending⟩
  · rw [h.slot, coldState_slot, show State.reset.slot k = SlotRecord.reset from look_replicate SlotRecord.reset k]
    simp only [mem_filter_allSlots]
    split <;> rfl
  · rw [h.pres, coldState_pres, coldState_slot]
    simp only [mem_filter_allSlots]
    split
    · next hline => rw [hline]; rfl
    · rfl
  · rw [State.pow, hpower, show State.reset.pow k = PowerRecord.reset false from look_replicate (PowerRecord.reset false) k]
    exact coldState_pow k s
  · rw [hpower]
    rfl
  · rw [hnotices]
    exact ⟨_, List.mem_map.mpr ⟨k, mem_filter_allSlots.mpr hk, rfl⟩, rfl⟩
  · rw [hnotices] at hn
    obtain ⟨k, hk, rfl⟩ := List.mem_map.mp hn
    exact ⟨k, mem_filter_allSlots.mp hk, rfl⟩

end Sys2Proof.Machine
end

section
/-!
PROOF. RESTART: every block, the insertion debounces begun anew, and the slots that the gate takes.
-/
namespace Sys2Proof.Machine

/-- The slots that enter IDENTIFYING at a restart: the card present, mode AUTO, admission OPEN (R26). -/
def restartAdmits (s : State) (k : Slot) : Bool :=
  (s.slot k).cardPresent && (s.slot k).mode == .auto && s.settings.admission == .opened

/-- The slots that enter SETTLING at a restart: no card present, the line asserted (R38). -/
def restartSettles (s : State) (k : Slot) : Bool := !(s.slot k).cardPresent && (s.pres k).line

/-- A restart before the gate is applied. -/
def linesResumed (s : State) : State := eachSlot allSlots resumeInsertion (restartBlocks s)

theorem linesResumed_settled (s : State) :
    Settled (allSlots.filter (restartSettles s)) (restartBlocks s) (linesResumed s) := by
  refine eachSlot_lines allSlots_nodup (fun k _ u hu hus => ?_) fun k _ hk => ?_
  · have hline : ((u.pres k).line && !(u.slot k).cardPresent) = restartSettles s k := by
      rw [hu, hus, restartBlocks_pres, restartBlocks_slot, restartSettles, Bool.and_comm]
      rfl
    rw [resumeInsertion, hline]
  · obtain ⟨hcard, -⟩ := Bool.and_eq_true_iff.mp hk
    rw [Bool.not_eq_true'] at hcard
    rw [restartBlocks_pres, restartBlocks_slot, restartPresence, restartSlot, hcard]
    exact ⟨rfl, rfl⟩

theorem linesResumed_slot (s : State) (k : Slot) : (linesResumed s).slot k =
    if restartSettles s k = true then { restartSlot (s.slot k) with state := .settling } else restartSlot (s.slot k) := by
  rw [(linesResumed_settled s).slot, restartBlocks_slot]
  simp only [mem_filter_allSlots]

theorem linesResumed_epoch (s : State) (k : Slot) : ((linesResumed s).slot k).epoch = (restartSlot (s.slot k)).epoch := by
  rw [linesResumed_slot]
  split <;> rfl

theorem linesResumed_epoch_of_admits {s : State} {k : Slot} (h : restartAdmits s k = true) :
    ((linesResumed s).slot k).epoch = (s.slot k).epoch + 1 := by
  have hcard : (s.slot k).cardPresent = true := by simp_all [restartAdmits]
  rw [linesResumed_epoch]
  exact if_pos hcard

theorem restartSlot_epoch_of_settles {s : State} {k : Slot} (h : restartSettles s k = true) :
    (restartSlot (s.slot k)).epoch = (s.slot k).epoch := by
  have hcard : (s.slot k).cardPresent = false := by simp_all [restartSettles]
  exact if_neg (by rw [hcard]; exact Bool.false_ne_true)

theorem linesResumed_settings (s : State) : (linesResumed s).settings = s.settings := by
  rw [State.settings, (linesResumed_settled s).rest]
  rfl

theorem atGate_linesResumed (s : State) (hopen : s.settings.admission = .opened) (k : Slot) :
    atGate (linesResumed s) k = restartAdmits s k := by
  rw [atGate, linesResumed_slot, restartAdmits, restartSettles, hopen]
  cases hc : (s.slot k).cardPresent <;> cases hl : (s.pres k).line <;> simp [restartSlot, hc]

theorem restartAll_admitted (s : State) :
    Admitted (allSlots.filter (restartAdmits s)) (linesResumed s) (restartAll s) := by
  show Admitted _ (linesResumed s) (eachSlot allSlots admissionGate (linesResumed s))
  by_cases hopen : s.settings.admission = .opened
  · rw [← List.filter_congr fun k _ => atGate_linesResumed s hopen k]
    exact eachSlot_admissionGate (by rw [linesResumed_settings]; exact hopen) allSlots_nodup
  · have hnone : allSlots.filter (restartAdmits s) = [] := List.filter_eq_nil_iff.mpr fun k _ => by
      simp [restartAdmits, hopen]
    rw [admissionGate_of_closed (by rw [linesResumed_settings]; exact hopen), hnone]
    exact .nil _

/-- A slot's record after a restart (R26). -/
theorem restartAll_slot (s : State) (k : Slot) : (restartAll s).slot k =
    { state := if (s.slot k).cardPresent then (if restartAdmits s k then .identifying else .present)
        else if (s.pres k).line then .settling else .empty
      mode := (s.slot k).mode, cardPresent := (s.slot k).cardPresent
      epoch := if (s.slot k).cardPresent then (s.slot k).epoch + 1 else (s.slot k).epoch
      identity := none, profileIndex := none, parkReason := none, faultReason := none, cardCode := none
      faultRun := 0, cleanRun := 0 } := by
  rw [(restartAll_admitted s).slot, linesResumed_slot]
  simp only [mem_filter_allSlots]
  cases hc : (s.slot k).cardPresent <;> cases hl : (s.pres k).line <;> cases ha : restartAdmits s k <;>
    simp_all [restartSettles, restartAdmits, restartSlot, SlotRecord.reset]

theorem restartAll_presence (s : State) : (restartAll s).presence = (linesResumed s).presence := by
  rw [(restartAll_admitted s).rest]

/-- A slot's presence after a restart (R38). -/
theorem restartAll_pres (s : State) (k : Slot) : (restartAll s).pres k =
    { s.pres k with
      phase := if (s.slot k).cardPresent then (if (s.pres k).line then .seated else .removing)
        else if (s.pres k).line then .inserting else .absent
      timer := if (s.slot k).cardPresent then
          (if (s.pres k).line then .stopped else .removal s.settings.removalDebounce)
        else if (s.pres k).line then .insertion s.settings.insertionDebounce (s.slot k).epoch else .stopped } := by
  have hlines : (restartAll s).pres k = (linesResumed s).pres k := by rw [State.pres, restartAll_presence]; rfl
  rw [hlines, (linesResumed_settled s).pres, restartBlocks_pres, restartBlocks_slot,
    show (restartBlocks s).settings = s.settings from rfl]
  simp only [mem_filter_allSlots]
  cases hc : (s.slot k).cardPresent <;> cases hl : (s.pres k).line <;>
    simp [restartSettles, restartPresence, restartSlot, hc, hl]

/-- The attempt records after a restart (R40). -/
theorem restartAll_attempt (s : State) (k : Slot) : (restartAll s).attempt k =
    if restartAdmits s k = true then some ⟨(s.slot k).epoch + 1, 1⟩ else none := by
  obtain ⟨hmatcher, -⟩ := (linesResumed_settled s).blocks
  have hnone : (linesResumed s).attempt k = none := by
    rw [State.attempt, hmatcher]
    exact look_replicate none k
  rw [(restartAll_admitted s).attempt, hnone]
  simp only [mem_filter_allSlots]
  refine if_ctx_congr Iff.rfl (fun ha => ?_) fun _ => rfl
  rw [linesResumed_epoch_of_admits ha]

/-- The Service Queue after a restart: the IDENT READs in slot order (R26, R99). -/
theorem restartAll_service (s : State) : (restartAll s).service = { restartService s.service with
    queue := (allSlots.filter (restartAdmits s)).map fun k => identRead k ((s.slot k).epoch + 1) } := by
  obtain ⟨-, -, -, hservice, -⟩ := (linesResumed_settled s).blocks
  have hreads : ((allSlots.filter (restartAdmits s)).map fun k => identRead k ((linesResumed s).slot k).epoch)
      = (allSlots.filter (restartAdmits s)).map fun k => identRead k ((s.slot k).epoch + 1) :=
    List.map_congr_left fun k hk => by rw [linesResumed_epoch_of_admits (mem_filter_allSlots.mp hk)]
  rw [(restartAll_admitted s).service, hservice, hreads]
  rfl

/-- The notices after a restart: the slots that settle, then those that are admitted, each in slot order (R26, R38). -/
theorem restartAll_notices (s : State) : (restartAll s).mgmt.notices =
    ((allSlots.filter (restartSettles s)).map fun k => ⟨1, .slot k .settling (s.slot k).epoch none false⟩)
      ++ (allSlots.filter (restartAdmits s)).map fun k => ⟨1, .slot k .identifying ((s.slot k).epoch + 1) none false⟩ := by
  have hcyc : ∀ k, (restartBlocks s).cyc k = CycleSlot.reset := fun k => look_replicate CycleSlot.reset k
  have hcycle : ∀ k, (linesResumed s).cyc k = CycleSlot.reset := fun k => by
    obtain ⟨-, -, -, -, -, hcycle, -⟩ := (linesResumed_settled s).blocks
    rw [State.cyc, hcycle]
    exact hcyc k
  have hsettling : (linesResumed s).mgmt.notices
      = (allSlots.filter (restartSettles s)).map fun k => ⟨1, .slot k .settling (s.slot k).epoch none false⟩ := by
    rw [(linesResumed_settled s).notices, show (restartBlocks s).mgmt.notices = [] from rfl]
    refine (foldl_queueNotice_fresh (body := fun k => .slot k .settling ((restartBlocks s).slot k).epoch none
      ((restartBlocks s).cyc k).cardDiag) (fun _ => rfl) (allSlots_filter_nodup _) (q := [])
      (fun n hn => absurd hn List.not_mem_nil)).trans ?_
    rw [List.nil_append]
    refine List.map_congr_left fun k hk => ?_
    rw [hcyc, restartBlocks_slot, restartSlot_epoch_of_settles (mem_filter_allSlots.mp hk)]
    rfl
  rw [(restartAll_admitted s).notices, hsettling]
  refine (foldl_queueNotice_fresh (body := fun k => .slot k .identifying ((linesResumed s).slot k).epoch none
    ((linesResumed s).cyc k).cardDiag) (fun _ => rfl) (allSlots_filter_nodup _) (fun n hn k hk => ?_)).trans ?_
  · obtain ⟨j, hj, rfl⟩ := List.mem_map.mp hn
    rintro heq
    obtain rfl : j = k := by injection heq
    have hs := mem_filter_allSlots.mp hj
    have ha := mem_filter_allSlots.mp hk
    simp_all [restartSettles, restartAdmits]
  · refine congrArg _ (List.map_congr_left fun k hk => ?_)
    rw [hcycle, linesResumed_epoch_of_admits (mem_filter_allSlots.mp hk)]
    rfl

/-- The blocks in which a restart admits no slot and settles none. -/
theorem restartAll_blocks (s : State) : (restartAll s).matcher.rules = s.matcher.rules
    ∧ (restartAll s).matcher.defaultAction = s.matcher.defaultAction ∧ (restartAll s).library = s.library
    ∧ (restartAll s).power = (restartBlocks s).power ∧ (restartAll s).maps = MapBuilder.reset
    ∧ (restartAll s).cycle = restartCycle s.cycle
    ∧ { (restartAll s).mgmt with notices := [] } = restartManagement s.mgmt ∧ (restartAll s).pending = s.pending := by
  obtain ⟨hmatcher, hlibrary, hpower, -, hmaps, hcycle, hmgmt, hpending⟩ := (linesResumed_settled s).blocks
  have hgate := (restartAll_admitted s).rest
  generalize restartAll s = t at hgate
  generalize linesResumed s = u at hgate hmatcher hlibrary hpower hmaps hcycle hmgmt hpending
  rw [hgate]
  refine ⟨?_, ?_, hlibrary, hpower, hmaps, hcycle, hmgmt, hpending⟩ <;> simp only [hmatcher] <;> rfl

/-- Settles O59: the blocks as a restart sets them, then the slots that settle and those that the gate takes. -/
theorem restartSetsEveryBlock : Obligations.RestartSetsEveryBlock := by
  unfold Obligations.RestartSetsEveryBlock
  intro tag s hfree
  obtain ⟨hrules, hdefault, hlibrary, hpower, hmaps, hcycle, hmgmt, hpending⟩ := restartAll_blocks s
  have hservice := restartAll_service s
  have hnotices := restartAll_notices s
  refine ⟨restartAll s, ?_, restartAll_slot s, restartAll_pres s, restartAll_attempt s, hrules, hdefault, hlibrary,
    fun k => ?_, ?_, ?_, ?_, ?_, ?_, fun k => ?_, ?_, hmaps, hcycle, hmgmt, fun k => ⟨fun ha => ?_, fun hs => ?_⟩,
    fun n hn => ?_, hpending⟩
  · refine congrArg Host.Outcome.next ((exec_done_of_free hfree (serve := serveRestart []) rfl tag 128).trans ?_)
    rw [hmaps, hcycle]
    rfl
  · rw [State.pow, hpower]
    exact restartBlocks_pow k s
  · rw [hpower]
    rfl
  · rw [hpower]
    rfl
  · rw [hpower]
    rfl
  · rw [hservice]
    rfl
  · rw [hservice]
    rfl
  · rw [State.download, hservice]
    exact look_replicate none k
  · rw [hservice]
    rfl
  · exact ⟨_, hnotices ▸ List.mem_append_right _ (List.mem_map.mpr ⟨k, mem_filter_allSlots.mpr ha, rfl⟩), rfl⟩
  · exact ⟨_, hnotices ▸ List.mem_append_left _ (List.mem_map.mpr ⟨k, mem_filter_allSlots.mpr hs, rfl⟩), rfl⟩
  · rw [hnotices] at hn
    obtain hn | hn := List.mem_append.mp hn
    · obtain ⟨k, hk, rfl⟩ := List.mem_map.mp hn
      exact ⟨k, rfl, .inr (mem_filter_allSlots.mp hk)⟩
    · obtain ⟨k, hk, rfl⟩ := List.mem_map.mp hn
      exact ⟨k, rfl, .inl (mem_filter_allSlots.mp hk)⟩

end Sys2Proof.Machine
end

section
/-!
PROOF. The reset state: its values block by block, and that it is sound, as what a cold reset leaves of it.
-/
namespace Sys2Proof.Machine

/-! ## Values of the reset state -/

theorem reset_slot (k : Slot) : State.reset.slot k = SlotRecord.reset := look_replicate SlotRecord.reset k
theorem reset_pres (k : Slot) : State.reset.pres k = PresenceRecord.reset false :=
  look_replicate (PresenceRecord.reset false) k
theorem reset_pow (k : Slot) : State.reset.pow k = PowerRecord.reset false := look_replicate (PowerRecord.reset false) k
theorem reset_cyc (k : Slot) : State.reset.cyc k = CycleSlot.reset := look_replicate CycleSlot.reset k

/-- Settles O3: each table by its one entry, the other blocks as they are written. -/
theorem resetValuesOfEveryBlock : Obligations.ResetValuesOfEveryBlock := by
  unfold Obligations.ResetValuesOfEveryBlock
  refine ⟨fun k => ?_, fun i => look_replicate Rule.reset i, rfl, fun i => look_replicate Profile.reset i, fun o => rfl, rfl,
    rfl, rfl, rfl, rfl, rfl, rfl, rfl, rfl, rfl, rfl, rfl, rfl, rfl, rfl, rfl, rfl, rfl, rfl, rfl, rfl, rfl⟩
  rw [reset_slot, reset_pres, reset_pow, reset_cyc]
  exact ⟨rfl, rfl, rfl, rfl, look_replicate none k, look_replicate none k, rfl, rfl, rfl, rfl, rfl, rfl, rfl, rfl⟩

/-! ## A cold reset of the reset state -/

theorem amendAll_replicate {α β : Type} (n : Nat) (a : α) (f : α → β) :
    amendAll (Vector.replicate n a) f = Vector.replicate n (f a) := by
  ext k hk
  simp [amendAll, look]

theorem coldState_reset : coldState State.reset = State.reset := by
  unfold coldState
  rw [show State.reset.presence = Vector.replicate 16 (PresenceRecord.reset false) from rfl,
    show State.reset.power.slots = Vector.replicate 16 (PowerRecord.reset false) from rfl, amendAll_replicate,
    amendAll_replicate]
  rfl

/-- A cold reset leaves the reset state as it is. -/
theorem coldReset_reset : eachSlot allSlots redetect (coldState State.reset) = State.reset := by
  rw [coldState_reset]
  refine eachSlot_keeps (P := (· = State.reset)) allSlots (fun k _ u hu => ?_) _ rfl
  rw [hu, redetect, reset_pres]
  rfl

theorem recordFor_reset : RecordFor SlotRecord.reset := by
  unfold RecordFor
  decide

theorem identityFor_reset : IdentityFor SlotRecord.reset := by
  unfold IdentityFor
  decide

/-- Settles O4: what a cold reset leaves is sound, and it leaves the reset state as it is. -/
theorem resetStateIsSound : Obligations.ResetStateIsSound := by
  unfold Obligations.ResetStateIsSound
  have hcold := coldReset_reset
  have hlink : LinkSound 8 State.reset := hcold ▸ coldReset_linkSound _
  refine ⟨tablesSound_reset, hcold ▸ coldReset_mapsSound _, (headLinkSound_iff _).mpr hlink, hcold ▸ coldReset_cycleSound _,
    hcold ▸ coldReset_powerSound _, hcold ▸ coldReset_presenceSound _, fun k => ?_,
    hcold ▸ coldReset_serviceSound _, fun k => ?_,
    hcold ▸ coldReset_mapSlotsSound _, hcold ▸ coldReset_buffersSound _⟩
  · show RecordFor (State.reset.slot k)
    rw [reset_slot]
    exact recordFor_reset
  · show IdentityFor (State.reset.slot k)
    rw [reset_slot]
    exact identityFor_reset

end Sys2Proof.Machine
end
